-- ==== Sys2Proof/Word.lean ====
section
/-! DEFINITION. The widths of 00_scope.md R11: a byte is 8 bits, a word 32, a double word 64.
All values are unsigned. -/

namespace Sys2Proof

abbrev Byte := BitVec 8

abbrev Word := BitVec 32

abbrev DWord := BitVec 64

end Sys2Proof
end

