-- ==== Sys2Proof/Machine/Bytes.lean ====
section
/-! DEFINITION. Byte order (00_scope.md R15, 20_memory.md R53): every value of several bytes is
big-endian, most significant byte first. -/

namespace Sys2Proof.Machine

/-- `BE32(b0, b1, b2, b3)`. -/
def be32 (b0 b1 b2 b3 : Byte) : Word := b0 ++ b1 ++ b2 ++ b3

/-- `BE64(b0, ..., b7)`. -/
def be64 (b0 b1 b2 b3 b4 b5 b6 b7 : Byte) : DWord := be32 b0 b1 b2 b3 ++ be32 b4 b5 b6 b7

/-- Byte `b` of `bytes_BE32(w)`, byte 0 the most significant. -/
def byteOfWord (w : Word) (b : Nat) : Byte := w.extractLsb' (24 - 8 * b) 8

/-- Byte `b` of `bytes_BE64(d)`, byte 0 the most significant. -/
def byteOfDWord (d : DWord) (b : Nat) : Byte := d.extractLsb' (56 - 8 * b) 8

/-- The Word Packer's layout (R180): word `j` is bytes `4j` to `4j + 3`. -/
def packWords (blk : Vector Byte 64) : Vector Word 16 :=
  Vector.ofFn fun j => be32 blk[4 * j.val] blk[4 * j.val + 1] blk[4 * j.val + 2] blk[4 * j.val + 3]

/-- The digest's layout (R221): bytes `4j` to `4j + 3` are `bytes_BE32(H[j])`. -/
def digestBytes (h : Vector Word 8) : Vector Byte 32 :=
  Vector.ofFn fun k => byteOfWord h[k.val / 4] (k.val % 4)

end Sys2Proof.Machine
end

