-- ==== Sys2Proof/Machine/Primitive.lean ====
section
/-! DEFINITION. The initial hash value and SHA256_COMPRESS, the function that the named property of COMPRESS_FN
speaks of (44_compression.md R190, R200 to R206). COMPRESS_FN itself is `Config.compressPrimitive`. -/

namespace Sys2Proof.Machine

/-- The initial hash value (R190). -/
def initialHash : Vector Word 8 :=
  #v[0x6a09e667, 0xbb67ae85, 0x3c6ef372, 0xa54ff53a, 0x510e527f, 0x9b05688c, 0x1f83d9ab, 0x5be0cd19]

/-- R200. -/
def rotr (x : Word) (n : Nat) : Word := (x >>> n) ||| (x <<< (32 - n))

def choose (x y z : Word) : Word := (x &&& y) ^^^ (~~~x &&& z)

def majority (x y z : Word) : Word := (x &&& y) ^^^ (x &&& z) ^^^ (y &&& z)

def bigSigma0 (x : Word) : Word := rotr x 2 ^^^ rotr x 13 ^^^ rotr x 22

def bigSigma1 (x : Word) : Word := rotr x 6 ^^^ rotr x 11 ^^^ rotr x 25

def smallSigma0 (x : Word) : Word := rotr x 7 ^^^ rotr x 18 ^^^ (x >>> 3)

def smallSigma1 (x : Word) : Word := rotr x 17 ^^^ rotr x 19 ^^^ (x >>> 10)

/-- `K[0..64)` (R201). -/
def roundConstants : List Word :=
  [0x428a2f98, 0x71374491, 0xb5c0fbcf, 0xe9b5dba5, 0x3956c25b, 0x59f111f1, 0x923f82a4, 0xab1c5ed5] ++
  [0xd807aa98, 0x12835b01, 0x243185be, 0x550c7dc3, 0x72be5d74, 0x80deb1fe, 0x9bdc06a7, 0xc19bf174] ++
  [0xe49b69c1, 0xefbe4786, 0x0fc19dc6, 0x240ca1cc, 0x2de92c6f, 0x4a7484aa, 0x5cb0a9dc, 0x76f988da] ++
  [0x983e5152, 0xa831c66d, 0xb00327c8, 0xbf597fc7, 0xc6e00bf3, 0xd5a79147, 0x06ca6351, 0x14292967] ++
  [0x27b70a85, 0x2e1b2138, 0x4d2c6dfc, 0x53380d13, 0x650a7354, 0x766a0abb, 0x81c2c92e, 0x92722c85] ++
  [0xa2bfe8a1, 0xa81a664b, 0xc24b8b70, 0xc76c51a3, 0xd192e819, 0xd6990624, 0xf40e3585, 0x106aa070] ++
  [0x19a4c116, 0x1e376c08, 0x2748774c, 0x34b0bcb5, 0x391c0cb3, 0x4ed8aa4a, 0x5b9cca4f, 0x682e6ff3] ++
  [0x748f82ee, 0x78a5636f, 0x84c87814, 0x8cc70208, 0x90befffa, 0xa4506ceb, 0xbef9a3f7, 0xc67178f2]

/-- The next word `X[t]` from the words before it, the newest first (R202). -/
def nextScheduleWord (newest : List Word) : Word :=
  smallSigma1 (newest.getD 1 0) + newest.getD 6 0 + smallSigma0 (newest.getD 14 0) + newest.getD 15 0

/-- `n` more schedule words on a list that holds the newest first. -/
def extendSchedule : Nat → List Word → List Word
  | 0, newest => newest
  | n + 1, newest => extendSchedule n (nextScheduleWord newest :: newest)

/-- `X[0..64)` (R202). -/
def schedule (w : Vector Word 16) : List Word := (extendSchedule 48 w.toList.reverse).reverse

/-- The working variables `a` to `h` (R203). -/
structure Working where
  a : Word
  b : Word
  c : Word
  d : Word
  e : Word
  f : Word
  g : Word
  h : Word
  deriving DecidableEq, Repr

/-- One round with `K[t]` and `X[t]` (R203). -/
def compressionRound (v : Working) (k x : Word) : Working :=
  let t1 := v.h + bigSigma1 v.e + choose v.e v.f v.g + k + x
  let t2 := bigSigma0 v.a + majority v.a v.b v.c
  { a := t1 + t2, b := v.a, c := v.b, d := v.c, e := v.d + t1, f := v.e, g := v.f, h := v.g }

def runRounds : List Word → List Word → Working → Working
  | k :: ks, x :: xs, v => runRounds ks xs (compressionRound v k x)
  | [], _, v => v
  | _, [], v => v

def startWorking (hs : Vector Word 8) : Working :=
  { a := hs[0], b := hs[1], c := hs[2], d := hs[3], e := hs[4], f := hs[5], g := hs[6], h := hs[7] }

/-- SHA256_COMPRESS (R202 to R204). -/
def sha256Compress (w : Vector Word 16) (hs : Vector Word 8) : Vector Word 8 :=
  let v := runRounds roundConstants (schedule w) (startWorking hs)
  #v[v.a + hs[0], v.b + hs[1], v.c + hs[2], v.d + hs[3],
     v.e + hs[4], v.f + hs[5], v.g + hs[6], v.h + hs[7]]

end Sys2Proof.Machine
end

