-- ==== Sys2Proof/Config.lean ====
section
/-! DEFINITION. What an instance fixes and what the spec leaves free (00_scope.md R6, R8, R9; 10_state.md R28).
Every constant below is opaque: no proof can learn its value, so a theorem holds for every value of it. -/

namespace Sys2Proof

/-- Parameter HINT_SOURCE (R9): `builder` (default) gives the deterministic hints,
`oracle` makes the hints of checked commands free draws. -/
inductive HintSource where
  | builder
  | oracle
  deriving DecidableEq, Repr

/-- Parameter `N` (R6), 0 to 2^32 - 1: what CAPACITY holds after reset (R29).
DESIGN CHOICE, log entry 1: the machine reads `N` from the state's CAPACITY register, so every
theorem about a state quantifies over `N`. Safe. -/
opaque Config.capacity : Word

/-- Parameter COMPRESS_FN (R8, R191) with its named property (R192), equality with SHA256_COMPRESS on all inputs,
which is all that is known of it: the property is the type's, so no conforming primitive is left out and a
proof that needs the property has to name it. DESIGN CHOICE, log entry 3. Unsafe for a primitive that breaks R192. -/
opaque Config.compressPrimitive :
  { f : Vector Word 16 → Vector Word 8 → Vector Word 8 // f = Machine.sha256Compress }

/-- Free value (R9, R130, R158): the `n`-th `draw byte[64]` under HINT_SOURCE = oracle.
DESIGN CHOICE, log entry 4. Safe. -/
opaque Config.drawBlock : Nat → Vector Byte 64

/-- Free value (R9, R130): the `n`-th `draw integer in [0, 64]` under HINT_SOURCE = oracle.
DESIGN CHOICE, log entry 4. Safe. -/
opaque Config.drawPointer : Nat → Fin 65

/-- Free value (R28, R101): what DIGEST holds from an acceptance until the end of the command.
DESIGN CHOICE, log entry 4. Safe. -/
opaque Config.unspecifiedDigest : Nat → Vector Byte 32

end Sys2Proof
end

