-- ==== Sys2Proof/Syntax.lean ====
section
/-! DEFINITION. The block's fifteen operations (30_encoding.md R73, R74; opcode_table.json): two commands
of format CMD32 and thirteen micro-operations of format UOP32. A window index is an unbounded natural
number (00_scope.md R11); `WellFormed` says which ones the 26-bit IDX field holds. -/

namespace Sys2Proof

inductive Instr where
  | hashVar (c : Bool)
  | hashFull (c : Bool)
  | init
  | build (i : Nat)
  | vblk (i : Nat)
  | sel (i : Nat)
  | pack
  | cmpb (i : Nat)
  | ptrwrap
  | term
  | flush
  | attlen
  | vlen
  | cmpu
  | digest
  deriving DecidableEq, Repr

end Sys2Proof
end

