-- ==== Sys2Proof/Machine/State.lean ====
section
/-! DEFINITION. The block's state as plain data: every register of 10_state.md, the instance's two
parameters, and the inputs the host gives the block (message buffer, MSG_SIZE, the actions to come). -/

namespace Sys2Proof.Machine

/-- STATUS.STATE (R24). Values 5 to 7 are never produced and have no constructor (I11). -/
inductive BlockState where
  | idle
  | busy
  | done
  | aborted
  | rejected
  deriving DecidableEq, Repr

/-- STATUS.CAUSE (R230). Codes 7 and 10 to 15 are never produced and have no constructor (I11). -/
inductive Cause where
  | none
  | blockByteMismatch
  | blockPadNonzero
  | slackNonzero
  | lenTrailerMismatch
  | lenPrefixMismatch
  | lenFillNonzero
  | illegalCmd
  | sizeRange
  deriving DecidableEq, Repr

/-- The host-visible registers (R24 to R26, R28, R29). -/
inductive HostReg where
  | status
  | info
  | cmd
  | capacity
  /-- `D[j]` -/
  | digestByte (j : Fin 32)
  /-- `DIGEST_W[j]` -/
  | digestWord (j : Fin 8)
  deriving DecidableEq, Repr

/-- What the host can do between two micro-operations (R77, R265). -/
inductive HostAction where
  /-- Nothing: a BUSY block performs its next micro-operation. -/
  | idle
  /-- `wait STATE != BUSY`: poll STATUS until it leaves BUSY (R77). -/
  | wait
  /-- `RESET` (R270). -/
  | reset
  /-- `MSG_SIZE := v` (R27). -/
  | driveMsgSize (v : DWord)
  /-- Write byte `k` of the message buffer (R265). -/
  | writeBuffer (k : Nat) (b : Byte)
  /-- Write a host register: a write of CMD issues a command (R26). -/
  | writeReg (r : HostReg) (v : Word)
  /-- Read a host register. -/
  | readReg (r : HostReg)
  deriving DecidableEq, Repr

/-- Why the machine stops. -/
inductive Fault where
  /-- Raised by BUILD, VBLK and a host write of the buffer at an index outside `[0, N)` (R51, R58).
  Log entry 8. Safe. -/
  | bufferIndexOutOfRange (k : Nat)
  /-- Raised by TERM with PTR above 63 and by a checked VLEN with PTR above 64: the byte named is no byte
  of BLK; no run of the block reaches it (R162). Log entry 11. Safe. -/
  | pointerPastBlock
  /-- Raised by a BUSY step with UPC at or past LEN(N); no run of the block reaches it (R23, R106).
  Log entry 12. Safe. -/
  | microProgramEnd
  /-- Raised by a BUSY step that fetches a reserved micro-word; UPROG(N) holds none (R76, I2). Safe. -/
  | reservedMicroWord (w : Word)
  /-- Raised by a host read of D or DIGEST_W while STATE is not DONE (R28, R281, I4). Log entry 10. Safe. -/
  | digestUnspecified
  deriving DecidableEq, Repr

/-- Why the machine has no move. -/
inductive Refusal where
  /-- Raised by an arm of `exec` without a meaning. Safe. -/
  | notModelled (mnemonic : String)
  /-- Raised by a host write of the buffer while BUSY: the spec gives it no result (R280, I7).
  Log entry 9. Safe. -/
  | bufferWriteWhileBusy
  deriving DecidableEq, Repr

structure State where
  /-- CAPACITY = `N`, hardwired (R29): nothing writes it. -/
  capacity : Word
  /-- HINT_SOURCE of the instance (R9): nothing writes it. -/
  hintSource : HintSource
  /-- STATUS.STATE, OVR, CAUSE and MODE (R24). -/
  blockState : BlockState
  ovr : Bool
  cause : Cause
  mode : Bool
  /-- INFO (R25). -/
  info : Word
  /-- MSG_SIZE, a port driven by the host (R27). -/
  msgSize : DWord
  /-- SIZE (R30). -/
  size : DWord
  /-- `C` (R31): true in checked mode. -/
  checked : Bool
  /-- UPC (R23). -/
  upc : Word
  /-- Hash State (R32). -/
  h : Vector Word 8
  /-- Message Block and Block Byte Pointer (R33, R34). -/
  blk : Vector Byte 64
  ptr : BitVec 7
  /-- Packed words (R35). -/
  w : Vector Word 16
  /-- The builder's hint (R36). -/
  hblk : Vector Byte 64
  hptr : BitVec 7
  /-- The verifier's count (R37). -/
  vptr : BitVec 7
  /-- The block before padding (R38). -/
  last : Vector Byte 64
  /-- `D` (R28). -/
  digest : Vector Byte 32
  /-- The message buffer (R50): rising indexes, no zero byte listed. -/
  buffer : List Host.Cell
  /-- The host actions to come, the next one first (R77, R265); the model's own field. -/
  hostActions : List HostAction
  /-- How many free values were taken; the model's own field. -/
  freeCount : Nat
  deriving DecidableEq, Repr

/-- After reset (R270, R271). STATUS and INFO are 0, CAPACITY holds `N`. The registers R271 calls
unspecified hold zeros. DESIGN CHOICE, log entry 5. Unsafe. HINT_SOURCE is the default (log entry 2). -/
def State.reset : State where
  capacity := Config.capacity
  hintSource := .builder
  blockState := .idle
  ovr := false
  cause := .none
  mode := false
  info := 0
  msgSize := 0
  size := 0
  checked := false
  upc := 0
  h := Vector.replicate 8 0
  blk := Vector.replicate 64 0
  ptr := 0
  w := Vector.replicate 16 0
  hblk := Vector.replicate 64 0
  hptr := 0
  vptr := 0
  last := Vector.replicate 64 0
  digest := Vector.replicate 32 0
  buffer := []
  hostActions := []
  freeCount := 0

end Sys2Proof.Machine
end

