-- ==== Sys2Proof/Machine/Flags.lean ====
section
/-! DEFINITION. The STATUS register (10_state.md R24; 60_exceptions.md R230): the codes of its fields and
the word the host reads. The block has no other flags (R39). -/

namespace Sys2Proof.Machine

/-- STATE codes (R24). -/
def stateCode : BlockState → BitVec 3
  | .idle => 0
  | .busy => 1
  | .done => 2
  | .aborted => 3
  | .rejected => 4

/-- CAUSE codes (R230). -/
def causeCode : Cause → BitVec 4
  | .none => 0
  | .blockByteMismatch => 1
  | .blockPadNonzero => 2
  | .slackNonzero => 3
  | .lenTrailerMismatch => 4
  | .lenPrefixMismatch => 5
  | .lenFillNonzero => 6
  | .illegalCmd => 8
  | .sizeRange => 9

/-- The kind "abort" of R230: causes 1 to 6. -/
def Cause.isAbort : Cause → Bool
  | .none => false
  | .blockByteMismatch => true
  | .blockPadNonzero => true
  | .slackNonzero => true
  | .lenTrailerMismatch => true
  | .lenPrefixMismatch => true
  | .lenFillNonzero => true
  | .illegalCmd => false
  | .sizeRange => false

/-- The kind "rejection" of R230: causes 8 and 9. -/
def Cause.isRejection : Cause → Bool
  | .none => false
  | .blockByteMismatch => false
  | .blockPadNonzero => false
  | .slackNonzero => false
  | .lenTrailerMismatch => false
  | .lenPrefixMismatch => false
  | .lenFillNonzero => false
  | .illegalCmd => true
  | .sizeRange => true

/-- STATUS as the host reads it (R24): `0 || MODE || CAUSE || OVR || STATE`. -/
def statusWord (s : State) : Word :=
  (0 : BitVec 23) ++ BitVec.ofBool s.mode ++ causeCode s.cause ++ BitVec.ofBool s.ovr ++ stateCode s.blockState

end Sys2Proof.Machine
end

