-- ==== Sys2Proof/Machine/Ops.lean ====
section
/-! DEFINITION. The named operations on the message buffer and the registers, the entry of an abort and of
a rejection, and RESET (20_memory.md; 40_driver.md R100 to R102, R108; 60_exceptions.md R231, R240;
70_reset_and_hazards.md R270). An abort has no return (R236): RESET is what leaves ABORTED. -/

namespace Sys2Proof.Machine

/-! The message buffer: index and byte, rising indexes, no zero byte listed. -/

/-- What a byte nothing has written reads as. DESIGN CHOICE, log entry 6. Unsafe. -/
def unwrittenByte : Byte := 0

def Memory.lookup : List Host.Cell → Nat → Byte
  | [], _ => unwrittenByte
  | (a, b) :: rest, k => if a = k then b else Memory.lookup rest k

/-- The cells with byte `k` set to `b`, in canonical form. -/
def Memory.store : List Host.Cell → Nat → Byte → List Host.Cell
  | [], k, b => if b = unwrittenByte then [] else [(k, b)]
  | (a, c) :: rest, k, b =>
    if a < k then (a, c) :: Memory.store rest k b
    else
      let tail := if a = k then rest else (a, c) :: rest
      if b = unwrittenByte then tail else (k, b) :: tail

/-- The canonical form: indexes at least `low` and strictly rising, no byte equal to `unwrittenByte`. -/
def Memory.wfFrom : Nat → List Host.Cell → Bool
  | _, [] => true
  | low, (a, b) :: rest => decide (low ≤ a) && decide (b ≠ unwrittenByte) && Memory.wfFrom (a + 1) rest

def Memory.wf (m : List Host.Cell) : Bool := Memory.wfFrom 0 m

/-- `N` as a number (R6). -/
def State.bufferSize (s : State) : Nat := s.capacity.toNat

/-- `MemRead(k, 1)` (R14, R51): the byte at index `k`, `none` outside `[0, N)`. -/
def memRead (s : State) (k : Nat) : Option Byte :=
  if k < s.bufferSize then some (Memory.lookup s.buffer k) else none

/-! Register writes. -/

def State.writeHash (s : State) (v : Vector Word 8) : State := { s with h := v }

def State.writeBlock (s : State) (v : Vector Byte 64) : State := { s with blk := v }

def State.writePointer (s : State) (v : BitVec 7) : State := { s with ptr := v }

def State.writeWords (s : State) (v : Vector Word 16) : State := { s with w := v }

def State.writeHint (s : State) (b : Vector Byte 64) (p : BitVec 7) : State := { s with hblk := b, hptr := p }

def State.writeVerified (s : State) (v : BitVec 7) : State := { s with vptr := v }

def State.writeLast (s : State) (v : Vector Byte 64) : State := { s with last := v }

/-- `D <- v` and `STATE <- DONE` (R221). -/
def State.writeDigest (s : State) (v : Vector Byte 32) : State := { s with digest := v, blockState := .done }

def State.writeBuffer (s : State) (k : Nat) (b : Byte) : State :=
  { s with buffer := Memory.store s.buffer k b }

def State.driveMsgSize (s : State) (v : DWord) : State := { s with msgSize := v }

def State.withActions (s : State) (as : List HostAction) : State := { s with hostActions := as }

/-- One free value is taken. -/
def State.takeFree (s : State) : State := { s with freeCount := s.freeCount + 1 }

/-- `UPC <- UPC + 1` (R108). -/
def State.advance (s : State) : State := { s with upc := s.upc + 1 }

/-! The compression primitive. -/

/-- `COMPRESS_FN(W, H)` (R8, R191): a call of the instance's primitive. -/
def compressFn (w : Vector Word 16) (hs : Vector Word 8) : Vector Word 8 := Config.compressPrimitive.val w hs

/-! The end of a micro-operation. -/

/-- A micro-operation that completes without abort (R108). -/
def complete (s : State) : Host.Outcome State Fault Refusal := .next s.advance

/-- Abort entry (R231): only STATE, CAUSE and INFO are written; UPC keeps its index. -/
def State.abort (s : State) (c : Cause) (n : Word) : State :=
  { s with blockState := .aborted, cause := c, info := n }

/-! Commands. -/

/-- Rejection (R102, R240). -/
def State.reject (s : State) (c : Cause) (n : Word) : State :=
  { s with blockState := .rejected, cause := c, info := n, ovr := false }

/-- Acceptance (R101). D becomes unspecified: it takes a free value. -/
def State.accept (s : State) (c : Bool) (size : DWord) : State :=
  { s with
    size := size, checked := c, mode := c, blockState := .busy, cause := .none, info := 0, ovr := false,
    upc := 0, digest := Config.unspecifiedDigest s.freeCount, freeCount := s.freeCount + 1 }

/-- A command issued while BUSY (R244). -/
def State.overrun (s : State) : State := { s with ovr := true }

/-- What an issued word does by the block's STATE (R100, R243): ignored while ABORTED, an overrun while BUSY,
else `handle`. -/
def issueGate (s : State) (handle : State → State) : State :=
  match s.blockState with
  | .aborted => s
  | .busy => s.overrun
  | .idle => handle s
  | .done => handle s
  | .rejected => handle s

/-- RESET (R270): no other register is written. -/
def State.resetBlock (s : State) : State :=
  { s with blockState := .idle, ovr := false, cause := .none, mode := false, info := 0 }

end Sys2Proof.Machine
end

