-- ==== Sys2Proof/Machine/Commands.lean ====
section
/-! DEFINITION. The commands HASH_VAR and HASH_FULL at issue (40_driver.md R100, R101, R110, R111) and the
rejection of a word that is no command (60_exceptions.md R241). -/

namespace Sys2Proof.Machine

/-- The size check and acceptance of HASH_VAR (R110, R242). -/
def startHashVar (c : Bool) (s : State) : State :=
  if s.bufferSize < s.msgSize.toNat then s.reject .sizeRange 0 else s.accept c s.msgSize

/-- HASH_VAR (R110). -/
def execHashVar (c : Bool) (s : State) : Host.Outcome State Fault Refusal :=
  .next (issueGate s (startHashVar c))

/-- Acceptance of HASH_FULL with `zext_64(N)` (R111). -/
def startHashFull (c : Bool) (s : State) : State := s.accept c (s.capacity.setWidth 64)

/-- HASH_FULL (R111). -/
def execHashFull (c : Bool) (s : State) : Host.Outcome State Fault Refusal :=
  .next (issueGate s (startHashFull c))

/-- A command word that spells no command (R75, R241): rejected with the word in INFO. -/
def execIllegalCommand (w : Word) (s : State) : Host.Outcome State Fault Refusal :=
  .next (issueGate s fun t => t.reject .illegalCmd w)

end Sys2Proof.Machine
end

