-- ==== Sys2Proof/Machine/Operands.lean ====
section
/-! DEFINITION. The values the micro-operations compute from their operands: window offsets and counts,
the hints, and the tests of the two verifiers (41_block_builder_verifier.md; 42_length_padding.md).
Offsets and counts are unbounded natural numbers (00_scope.md R11). -/

namespace Sys2Proof.Machine

/-- `off = 64 * i` (R72). -/
def windowOffset (i : Nat) : Nat := 64 * i

/-- `off < SIZE`: the window lies wholly or partially within the message (R136, R195). -/
def windowInMessage (s : State) (i : Nat) : Bool := windowOffset i < s.size.toNat

/-- The window's message bytes: `avail` of R130, recomputed as `c` of R132. -/
def windowCount (s : State) (i : Nat) : Nat :=
  if windowInMessage s i then min 64 (s.size.toNat - windowOffset i) else 0

/-- All of the window's message bytes are bytes of the buffer. -/
def windowReadable (s : State) (i : Nat) : Bool :=
  windowCount s i = 0 || windowOffset i + windowCount s i ≤ s.bufferSize

/-- The window's message bytes, then zeros (R130). -/
def windowBytes (s : State) (i : Nat) : Vector Byte 64 :=
  Vector.ofFn fun j =>
    if j.val < windowCount s i then Memory.lookup s.buffer (windowOffset i + j.val) else 0

/-- HINT_SOURCE = oracle and C = 1: the hints are draws (R9). -/
def drawsHints (s : State) : Bool := s.hintSource = .oracle && s.checked

/-- A 7-bit pointer register's value for a count. -/
def pointer (n : Nat) : BitVec 7 := BitVec.ofNat 7 n

/-- `SIZE * 8` (R158), an unbounded number (R11). -/
def bitLength (s : State) : Nat := 8 * s.size.toNat

/-- The Length/Padding Encoder's block (R158): the block below PTR, zeros to byte 55, the bit length. -/
def paddedBlock (s : State) : Vector Byte 64 :=
  Vector.ofFn fun j =>
    if j.val < 56 then (if s.ptr.toNat ≤ j.val then 0 else s.blk[j])
    else byteOfDWord (BitVec.ofNat 64 (bitLength s)) (j.val - 56)

/-- The length field `BE64(BLK[56], ..., BLK[63])` (R160). -/
def lengthField (b : Vector Byte 64) : DWord :=
  be64 b[56] b[57] b[58] b[59] b[60] b[61] b[62] b[63]

/-! Tests of the verifiers. -/

/-- How a test of VBLK or VLEN can fail: an abort, or an access the spec says the block never makes. -/
inductive TestFailure where
  | abort (c : Cause) (n : Nat)
  | fault (f : Fault)
  deriving DecidableEq, Repr

/-- The tests of VBLK on byte `j` of window `i`, in the order of R132. -/
def windowTest (s : State) (i : Nat) (j : Fin 64) : Option TestFailure :=
  let k := windowOffset i + j.val
  if j.val < windowCount s i then
    match memRead s k with
    | none => some (.fault (.bufferIndexOutOfRange k))
    | some b => if s.hblk[j] ≠ b then some (.abort .blockByteMismatch k) else none
  else if s.hblk[j] ≠ 0 then some (.abort .blockPadNonzero j.val)
  else
    match memRead s k with
    | none => none
    | some b => if b ≠ 0 then some (.abort .slackNonzero k) else none

/-- The first test of VBLK to fail, bytes in ascending order (R132, R233). -/
def windowVerdict (s : State) (i : Nat) : Option TestFailure :=
  (List.finRange 64).findSome? (windowTest s i)

/-- First test of VLEN (R160). -/
def trailerTest (s : State) : Option TestFailure :=
  if (lengthField s.blk).toNat ≠ bitLength s then some (.abort .lenTrailerMismatch 56) else none

/-- Second test of VLEN: bytes below PTR in ascending order (R160). -/
def prefixTest (s : State) : Option TestFailure :=
  (List.finRange 64).findSome? fun j =>
    if j.val < s.ptr.toNat ∧ s.blk[j] ≠ s.last[j] then some (.abort .lenPrefixMismatch j.val) else none

/-- BLK has no byte at or past 64 for the second test to read. Log entry 11. -/
def pastBlockTest (s : State) : Option TestFailure :=
  if 64 < s.ptr.toNat then some (.fault .pointerPastBlock) else none

/-- Third test of VLEN: bytes from PTR to 55 in ascending order (R160). -/
def fillTest (s : State) : Option TestFailure :=
  (List.finRange 64).findSome? fun j =>
    if s.ptr.toNat ≤ j.val ∧ j.val < 56 ∧ s.blk[j] ≠ 0 then some (.abort .lenFillNonzero j.val) else none

/-- The first test of VLEN to fail (R160, D30). -/
def lengthVerdict (s : State) : Option TestFailure :=
  (((trailerTest s).or (prefixTest s)).or (pastBlockTest s)).or (fillTest s)

/-- A verifier ends: `ok` if no test failed, else the abort of the first failure (R231, R233). -/
def settleTests (s : State) (verdict : Option TestFailure) (ok : State) : Host.Outcome State Fault Refusal :=
  match verdict with
  | none => complete ok
  | some (.abort c n) => .next (s.abort c (BitVec.ofNat 32 n))
  | some (.fault f) => .fault f

end Sys2Proof.Machine
end

