-- ==== Sys2Proof/Machine/Compression.lean ====
section
/-! DEFINITION. INIT, CMPB and CMPU (44_compression.md R193 to R197). -/

namespace Sys2Proof.Machine

/-- INIT (R193). -/
def execInit (s : State) : Host.Outcome State Fault Refusal :=
  complete (((s.writeHash initialHash).writeBlock (Vector.replicate 64 0)).writePointer 0)

/-- CMPB (R195). -/
def execCmpb (i : Nat) (s : State) : Host.Outcome State Fault Refusal :=
  complete (if windowInMessage s i ∧ s.ptr.toNat = 64 then s.writeHash (compressFn s.w s.h) else s)

/-- CMPU (R197). -/
def execCmpu (s : State) : Host.Outcome State Fault Refusal := complete (s.writeHash (compressFn s.w s.h))

end Sys2Proof.Machine
end

