-- ==== Sys2Proof/Machine/Digest.lean ====
section
/-! DEFINITION. DIGEST, the Final Digest Assembler (45_digest.md R221). -/

namespace Sys2Proof.Machine

/-- DIGEST (R221). -/
def execDigest (s : State) : Host.Outcome State Fault Refusal := complete (s.writeDigest (digestBytes s.h))

end Sys2Proof.Machine
end

