-- ==== Sys2Proof/Machine/Pack.lean ====
section
/-! DEFINITION. PACK, the Word Packer (43_word_packer.md R180). -/

namespace Sys2Proof.Machine

/-- PACK (R180). -/
def execPack (s : State) : Host.Outcome State Fault Refusal := complete (s.writeWords (packWords s.blk))

end Sys2Proof.Machine
end

