-- ==== Sys2Proof/Machine/Padding.lean ====
section
/-! DEFINITION. PTRWRAP, TERM, FLUSH, ATTLEN and VLEN (42_length_padding.md R152 to R160). -/

namespace Sys2Proof.Machine

/-- PTRWRAP (R152). -/
def execPtrwrap (s : State) : Host.Outcome State Fault Refusal :=
  complete (if s.ptr.toNat = 64 then s.writePointer 0 else s)

/-- TERM (R154). PTR is in [0, 63] in every run (R162); BLK has no byte at 64 or above (log entry 11). -/
def execTerm (s : State) : Host.Outcome State Fault Refusal :=
  if h : s.ptr.toNat < 64 then
    complete ((s.writeBlock (s.blk.set s.ptr.toNat 0x80)).writePointer (s.ptr + 1))
  else .fault .pointerPastBlock

/-- FLUSH (R156). -/
def execFlush (s : State) : Host.Outcome State Fault Refusal :=
  complete (if 56 < s.ptr.toNat then (s.writeHash (compressFn s.w s.h)).writePointer 0 else s)

/-- The block ATTLEN writes: the encoder's block, or a draw (R158). -/
def encodeLength (s : State) : State :=
  if drawsHints s then (s.writeBlock (Config.drawBlock s.freeCount)).takeFree
  else s.writeBlock (paddedBlock s)

/-- ATTLEN (R158): LAST keeps the block as it was. -/
def execAttlen (s : State) : Host.Outcome State Fault Refusal :=
  complete ((encodeLength s).writeLast s.blk)

/-- VLEN (R160): in unchecked mode nothing. -/
def execVlen (s : State) : Host.Outcome State Fault Refusal :=
  if s.checked then settleTests s (lengthVerdict s) s else complete s

end Sys2Proof.Machine
end

