-- ==== Sys2Proof/Machine/Windows.lean ====
section
/-! DEFINITION. BUILD, VBLK and SEL (41_block_builder_verifier.md R130 to R136). -/

namespace Sys2Proof.Machine

/-- The hint registers BUILD writes: the builder's values, or draws (R130, R131). -/
def buildHint (s : State) (i : Nat) : State :=
  if drawsHints s then
    (s.writeHint (Config.drawBlock s.freeCount) (pointer (Config.drawPointer s.freeCount).val)).takeFree
  else s.writeHint (windowBytes s i) (pointer (windowCount s i))

/-- BUILD (R130). A window that runs past the buffer can only be met with SIZE > N, which acceptance
excludes (log entry 8). -/
def execBuild (i : Nat) (s : State) : Host.Outcome State Fault Refusal :=
  if windowReadable s i then complete (buildHint s i)
  else .fault (.bufferIndexOutOfRange (max s.bufferSize (windowOffset i)))

/-- VBLK (R132): in unchecked mode nothing. -/
def execVblk (i : Nat) (s : State) : Host.Outcome State Fault Refusal :=
  if s.checked then settleTests s (windowVerdict s i) (s.writeVerified (pointer (windowCount s i)))
  else complete s

/-- The working block SEL takes (R136, D8, D9). -/
def selectWindow (s : State) (i : Nat) : State :=
  if windowInMessage s i then
    (s.writeBlock s.hblk).writePointer (if s.checked then s.vptr else s.hptr)
  else s

/-- SEL (R136). -/
def execSel (i : Nat) (s : State) : Host.Outcome State Fault Refusal := complete (selectWindow s i)

end Sys2Proof.Machine
end

