-- ==== Sys2Proof/Machine/Dispatch.lean ====
section
/-! DEFINITION. One arm per instruction. -/

namespace Sys2Proof.Machine

def exec (i : Instr) (s : State) : Host.Outcome State Fault Refusal :=
  match i with
  | .hashVar c => Sys2Proof.Machine.execHashVar c s
  | .hashFull c => Sys2Proof.Machine.execHashFull c s
  | .init => Sys2Proof.Machine.execInit s
  | .build n => Sys2Proof.Machine.execBuild n s
  | .vblk n => Sys2Proof.Machine.execVblk n s
  | .sel n => Sys2Proof.Machine.execSel n s
  | .pack => Sys2Proof.Machine.execPack s
  | .cmpb n => Sys2Proof.Machine.execCmpb n s
  | .ptrwrap => Sys2Proof.Machine.execPtrwrap s
  | .term => Sys2Proof.Machine.execTerm s
  | .flush => Sys2Proof.Machine.execFlush s
  | .attlen => Sys2Proof.Machine.execAttlen s
  | .vlen => Sys2Proof.Machine.execVlen s
  | .cmpu => Sys2Proof.Machine.execCmpu s
  | .digest => Sys2Proof.Machine.execDigest s

end Sys2Proof.Machine
end

