-- ==== Sys2Proof/WellFormed.lean ====
section
/-! DEFINITION. Which instructions the encodings of 30_encoding.md can spell: the window index of BUILD,
VBLK, SEL and CMPB fits the 26-bit field IDX (R72). Every other field is exact in its type. -/

namespace Sys2Proof

/-- The index fits IDX, bits [31:6] of a micro-word (R72). -/
def indexFits (i : Nat) : Bool := i < 2 ^ 26

def Instr.wellFormed : Instr → Bool
  | .hashVar _ => true
  | .hashFull _ => true
  | .init => true
  | .build i => indexFits i
  | .vblk i => indexFits i
  | .sel i => indexFits i
  | .pack => true
  | .cmpb i => indexFits i
  | .ptrwrap => true
  | .term => true
  | .flush => true
  | .attlen => true
  | .vlen => true
  | .cmpu => true
  | .digest => true

end Sys2Proof
end

