-- ==== Sys2Proof/Decode.lean ====
section
/-! DEFINITION. The two encodings of 30_encoding.md: command words (CMD32, R71, R73) and micro-words
(UOP32, R72, R74), both 32 bits, and the words each reserves (R75, R76). -/

namespace Sys2Proof

/-- A word written to CMD is a command word, a word of UPROG(N) is a micro-word (R70). -/
inductive Format where
  | cmd32
  | uop32
  deriving DecidableEq, Repr

/-- Why a word spells no operation. -/
inductive DecodeError where
  /-- A command word with a bit of RSV [31:9] set (R75). -/
  | commandReservedBits
  /-- A command word whose OP is neither 0x01 nor 0x02 (R75). -/
  | commandOpcode (op : Nat)
  /-- A micro-word whose UOP is 0x00 or 0x0E to 0x3F (R76). -/
  | microOpcode (op : Nat)
  /-- A micro-word of a non-indexed micro-operation with IDX != 0 (R76). -/
  | microIndex (idx : Nat)
  deriving DecidableEq, Repr

def Instr.format : Instr → Format
  | .hashVar _ => .cmd32
  | .hashFull _ => .cmd32
  | .init => .uop32
  | .build _ => .uop32
  | .vblk _ => .uop32
  | .sel _ => .uop32
  | .pack => .uop32
  | .cmpb _ => .uop32
  | .ptrwrap => .uop32
  | .term => .uop32
  | .flush => .uop32
  | .attlen => .uop32
  | .vlen => .uop32
  | .cmpu => .uop32
  | .digest => .uop32

/-- Fields of CMD32 (R71): OP [7:0], C [8], RSV [31:9]. -/
def commandOp (w : Word) : BitVec 8 := w.extractLsb' 0 8

def commandChecked (w : Word) : Bool := w.getLsbD 8

def commandReserved (w : Word) : BitVec 23 := w.extractLsb' 9 23

/-- Fields of UOP32 (R72): UOP [5:0], IDX [31:6]. -/
def microOp (w : Word) : BitVec 6 := w.extractLsb' 0 6

def microIdx (w : Word) : BitVec 26 := w.extractLsb' 6 26

/-- Command words (R71, R73, R75). -/
def decodeCommand (w : Word) : Except DecodeError Instr :=
  if commandReserved w ≠ 0 then .error .commandReservedBits
  else match (commandOp w).toNat with
    | 1 => .ok (.hashVar (commandChecked w))
    | 2 => .ok (.hashFull (commandChecked w))
    | op => .error (.commandOpcode op)

/-- A micro-operation that takes no index: IDX must be 0 (R72, R76). -/
def plainMicro (i : Instr) (idx : Nat) : Except DecodeError Instr :=
  if idx = 0 then .ok i else .error (.microIndex idx)

/-- Micro-words (R72, R74, R76). -/
def decodeMicro (w : Word) : Except DecodeError Instr :=
  let idx := (microIdx w).toNat
  match (microOp w).toNat with
  | 1 => plainMicro .init idx
  | 2 => .ok (.build idx)
  | 3 => .ok (.vblk idx)
  | 4 => .ok (.sel idx)
  | 5 => plainMicro .pack idx
  | 6 => .ok (.cmpb idx)
  | 7 => plainMicro .ptrwrap idx
  | 8 => plainMicro .term idx
  | 9 => plainMicro .flush idx
  | 10 => plainMicro .attlen idx
  | 11 => plainMicro .vlen idx
  | 12 => plainMicro .cmpu idx
  | 13 => plainMicro .digest idx
  | op => .error (.microOpcode op)

/-- The decoder knows the format from where the word comes from (R70). -/
def decode : Format → Word → Except DecodeError Instr
  | .cmd32, w => decodeCommand w
  | .uop32, w => decodeMicro w

/-- `RSV || C || OP` with RSV = 0 (R71). -/
def commandWord (op : BitVec 8) (c : Bool) : Word := (0 : BitVec 23) ++ BitVec.ofBool c ++ op

/-- `IDX || UOP` (R72). -/
def microWord (op : BitVec 6) (idx : Nat) : Word := BitVec.ofNat 26 idx ++ op

/-- The word of an instruction (R73, R74). -/
def encode : Instr → Word
  | .hashVar c => commandWord 0x01 c
  | .hashFull c => commandWord 0x02 c
  | .init => microWord 0x01 0
  | .build i => microWord 0x02 i
  | .vblk i => microWord 0x03 i
  | .sel i => microWord 0x04 i
  | .pack => microWord 0x05 0
  | .cmpb i => microWord 0x06 i
  | .ptrwrap => microWord 0x07 0
  | .term => microWord 0x08 0
  | .flush => microWord 0x09 0
  | .attlen => microWord 0x0A 0
  | .vlen => microWord 0x0B 0
  | .cmpu => microWord 0x0C 0
  | .digest => microWord 0x0D 0

/-- A table word carries no place it comes from, and four words (0x001, 0x002, 0x101, 0x102) are legal
command words while three of them are legal micro-words too (INIT, BUILD 0, BUILD 4). A legal command
word is read as a command, since right after reset only a command can run.
DESIGN CHOICE, log entry 15. -/
def tableFormat (w : Word) : Format :=
  match decodeCommand w with
  | .ok _ => .cmd32
  | .error _ =>
    match decodeMicro w with
    | .ok _ => .uop32
    | .error _ => .cmd32

/-- The instruction of an opcode-table word of `nbits` bits; the bits above `nbits` are 0. -/
def decodeTableWord (nbits w : Nat) : Option Instr :=
  let word := BitVec.ofNat 32 (w % 2 ^ nbits)
  match decode (tableFormat word) word with
  | .ok i => some i
  | .error _ => none

end Sys2Proof
end

