-- ==== Sys2Proof/Machine/MicroProgram.lean ====
section
/-! DEFINITION. The micro-program UPROG(N) (40_driver.md R104 to R106) and its fetch. `uprog` is the list as
R104 writes it; `fetchWord` reads one word of it without building the list, so that a step at a capacity of
2^32 - 1 can be evaluated. -/

namespace Sys2Proof.Machine

/-- The group of a full-capacity window (R104). -/
def windowGroup (i : Nat) : List Instr := [.build i, .vblk i, .sel i, .pack, .cmpb i]

/-- The partial window at offset `64 * NB`, present when TAIL != 0 (R104). -/
def tailGroup (n : Nat) : List Instr :=
  if n % 64 = 0 then [] else [.build (n / 64), .vblk (n / 64), .sel (n / 64)]

/-- From PTRWRAP to DIGEST (R104). -/
def paddingGroup : List Instr := [.ptrwrap, .term, .pack, .flush, .attlen, .vlen, .pack, .cmpu, .digest]

/-- `UPROG(n)` as micro-operations (R104). -/
def uprogInstrs (n : Nat) : List Instr :=
  [.init] ++ (List.range (n / 64)).flatMap windowGroup ++ tailGroup n ++ paddingGroup

/-- `UPROG(n)` (R104): a finite list of micro-words fixed by `n` alone. -/
def uprog (n : Nat) : List Word := (uprogInstrs n).map encode

/-- `LEN(n)` (R106). -/
def programLength (n : Nat) : Nat := 1 + 5 * (n / 64) + (if n % 64 = 0 then 0 else 3) + 9

/-- The index of PTRWRAP in `UPROG(n)`: the micro-operations before it are INIT and the windows. -/
def paddingStart (n : Nat) : Nat := 1 + 5 * (n / 64) + (if n % 64 = 0 then 0 else 3)

/-- The micro-operation at index `k` of `UPROG(n)`. -/
def fetchInstr (n k : Nat) : Option Instr :=
  match k with
  | 0 => some .init
  | m + 1 =>
    if m < 5 * (n / 64) then (windowGroup (m / 5))[m % 5]?
    else (tailGroup n ++ paddingGroup)[m - 5 * (n / 64)]?

/-- `UPROG(n)[k]` (R107). -/
def fetchWord (n k : Nat) : Option Word := (fetchInstr n k).map encode

/-- A capacity and an index at which UPROG holds a micro-operation: for an indexed one the capacity whose
partial window (for CMPB: last full window) is that window. Used only to place an instruction for the host.
`CMPB (2^26 - 1)` stands in no UPROG of a legal capacity (log entry 16). -/
def placeMicro (i : Instr) : Nat × Nat :=
  match i with
  | .build n => (64 * n + 63, 5 * n + 1)
  | .vblk n => (64 * n + 63, 5 * n + 2)
  | .sel n => (64 * n + 63, 5 * n + 3)
  | .cmpb n => (64 * n + 64, 5 * n + 5)
  | .init => (63, 0)
  | .ptrwrap => (63, 4)
  | .term => (63, 5)
  | .pack => (63, 6)
  | .flush => (63, 7)
  | .attlen => (63, 8)
  | .vlen => (63, 9)
  | .cmpu => (63, 11)
  | .digest => (63, 12)
  | .hashVar _ => (63, 0)
  | .hashFull _ => (63, 0)

end Sys2Proof.Machine
end

