-- ==== Sys2Proof/Machine/HostPort.lean ====
section
/-! DEFINITION. The block seen from its host (10_state.md R24 to R29; 60_exceptions.md R265) and its sequencer
(40_driver.md R107). The two that run an instruction take the meaning of instructions, `run`, as an
argument: `Step.lean` gives them `exec`. -/

namespace Sys2Proof.Machine

/-- `DIGEST_W[j] = BE32(D[4j], ..., D[4j+3])` (R28). -/
def digestWord (s : State) (j : Fin 8) : Word :=
  be32 s.digest[4 * j.val] s.digest[4 * j.val + 1] s.digest[4 * j.val + 2] s.digest[4 * j.val + 3]

/-- What a host read returns; a byte is zero-extended. CMD reads 0 (R26). D is defined only while
STATE = DONE (R28): elsewhere the read faults (I4, log entry 10). -/
def hostRead (r : HostReg) (s : State) : Except Fault Word :=
  match r with
  | .status => .ok (statusWord s)
  | .info => .ok s.info
  | .cmd => .ok 0
  | .capacity => .ok s.capacity
  | .digestByte j => if s.blockState = .done then .ok (s.digest[j].setWidth 32) else .error .digestUnspecified
  | .digestWord j => if s.blockState = .done then .ok (digestWord s j) else .error .digestUnspecified

/-- A host read changes nothing in the block (R265). -/
def readPort (r : HostReg) (s : State) : Host.Outcome State Fault Refusal :=
  match hostRead r s with
  | .ok _ => .next s
  | .error f => .fault f

/-- A host write of buffer byte `k`: a duty of the host keeps it out of BUSY (R56, R280; I7, log entry 9). -/
def writeBufferPort (k : Nat) (b : Byte) (s : State) : Host.Outcome State Fault Refusal :=
  if s.blockState = .busy then .refused .bufferWriteWhileBusy
  else if k < s.bufferSize then .next (s.writeBuffer k b)
  else .fault (.bufferIndexOutOfRange k)

/-- A word written to CMD is decoded and issued (R26, R100). -/
def issueWord (run : Instr → State → Host.Outcome State Fault Refusal) (w : Word) (s : State) :
    Host.Outcome State Fault Refusal :=
  match decode .cmd32 w with
  | .ok i => run i s
  | .error _ => execIllegalCommand w s

/-- A host write of a register. A write of STATUS has no effect (R24); the other read-only registers are
treated alike. DEDUCED, log entry 13. Unsafe. -/
def writePort (run : Instr → State → Host.Outcome State Fault Refusal) (r : HostReg) (v : Word) (s : State) :
    Host.Outcome State Fault Refusal :=
  match r with
  | .cmd => issueWord run v s
  | .status => .next s
  | .info => .next s
  | .capacity => .next s
  | .digestByte _ => .next s
  | .digestWord _ => .next s

/-- One step of the sequencer (R107): while BUSY it takes `UPROG(N)[UPC]`, decodes it and performs it; else
nothing happens (R263). -/
def sequencerStep (run : Instr → State → Host.Outcome State Fault Refusal) (s : State) :
    Host.Outcome State Fault Refusal :=
  if s.blockState = .busy then
    match fetchWord s.bufferSize s.upc.toNat with
    | none => .fault .microProgramEnd
    | some u =>
      match decode .uop32 u with
      | .ok i => run i s
      | .error _ => .fault (.reservedMicroWord u)
  else .next s

/-- `wait STATE != BUSY` (R77): the block goes on while BUSY and the action stays. -/
def waitStep (run : Instr → State → Host.Outcome State Fault Refusal) (rest : List HostAction) (s : State) :
    Host.Outcome State Fault Refusal :=
  if s.blockState = .busy then sequencerStep run s else .next (s.withActions rest)

/-- One step: the next host action, or, with none to come, the sequencer's (log entry 7). -/
def machineStep (run : Instr → State → Host.Outcome State Fault Refusal) (s : State) :
    Host.Outcome State Fault Refusal :=
  match s.hostActions with
  | [] => sequencerStep run s
  | .idle :: rest => sequencerStep run (s.withActions rest)
  | .wait :: rest => waitStep run rest s
  | .reset :: rest => .next (s.withActions rest).resetBlock
  | .driveMsgSize v :: rest => .next ((s.withActions rest).driveMsgSize v)
  | .writeBuffer k b :: rest => writeBufferPort k b (s.withActions rest)
  | .writeReg r v :: rest => writePort run r v (s.withActions rest)
  | .readReg r :: rest => readPort r (s.withActions rest)

/-- `s` about to perform the micro-operation `i`: BUSY, with the capacity and UPC that select it, and the
host doing nothing (log entry 16). -/
def placeUop (s : State) (i : Instr) : State :=
  { s with
    capacity := BitVec.ofNat 32 (placeMicro i).1, upc := BitVec.ofNat 32 (placeMicro i).2,
    blockState := .busy, hostActions := .idle :: s.hostActions }

/-- `s` with the instruction of a table word next to run: a command word about to be written to CMD, or a
micro-operation selected in UPROG (log entry 16). -/
def placeTableWord (s : State) (w : Word) : State :=
  match tableFormat w with
  | .cmd32 => s.withActions (.writeReg .cmd w :: s.hostActions)
  | .uop32 =>
    match decodeMicro w with
    | .ok i => placeUop s i
    | .error _ => s

end Sys2Proof.Machine
end

