-- ==== Sys2Proof/Machine/Step.lean ====
section
/-! DEFINITION. One step of the machine, and the placing of an instruction for the host. -/

namespace Sys2Proof.Machine

def step (s : State) : Host.Outcome State Fault Refusal := machineStep exec s

/-- Log entry 16. -/
def State.withFetchWord (s : State) (nbits w : Nat) : State :=
  placeTableWord s (BitVec.ofNat 32 (w % 2 ^ nbits))

end Sys2Proof.Machine
end

