-- ==== Sys2Proof/Safety.lean ====
section
/-! DEFINITION. The terms claims use: what an instruction leaves alone, which states are legal, and the digest
a command owes its host (40_driver.md R103, R112; 42_length_padding.md R162, R163). -/

namespace Sys2Proof.Machine

/-! Frames. -/

/-- Every byte of the message buffer reads as before. -/
def KeepsMemory (s t : State) : Prop := ∀ k, memRead t k = memRead s k

/-- The instance's parameters and everything the host gives the block are as before (R20, R51). -/
def KeepsInputs (s t : State) : Prop :=
  t.capacity = s.capacity ∧ t.hintSource = s.hintSource ∧ t.buffer = s.buffer ∧ t.msgSize = s.msgSize ∧
    t.hostActions = s.hostActions

/-- STATE is one of those in which a command is decoded (R100). -/
abbrev AcceptsCommands (s : State) : Prop :=
  s.blockState = .idle ∨ s.blockState = .done ∨ s.blockState = .rejected

/-! Legal states. -/

/-- The buffer lists rising indexes inside `[0, N)` and no byte that reads as an unlisted one (R50). -/
abbrev BufferCanonical (s : State) : Prop :=
  Memory.wf s.buffer = true ∧ ∀ c ∈ s.buffer, c.1 < s.bufferSize

/-- "Block Byte Pointer never exceeds 64" (R34, R36, R37). -/
abbrev PointersInBlock (s : State) : Prop :=
  s.ptr.toNat ≤ 64 ∧ s.hptr.toNat ≤ 64 ∧ s.vptr.toNat ≤ 64

/-- What each STATE says of the other fields of STATUS, of INFO and of UPC
(R101, R102, R106, R108, R221, R231, R234, R240, R242, R270). -/
abbrev StatusLegal (s : State) : Prop :=
  (s.blockState = .idle → s.ovr = false ∧ s.cause = .none ∧ s.mode = false ∧ s.info = 0) ∧
  (s.blockState = .busy → s.cause = .none ∧ s.info = 0 ∧ s.mode = s.checked ∧
    s.size.toNat ≤ s.bufferSize ∧ s.upc.toNat < programLength s.bufferSize) ∧
  (s.blockState = .done → s.cause = .none ∧ s.info = 0 ∧ s.mode = s.checked ∧
    s.digest = digestBytes s.h) ∧
  (s.blockState = .aborted → s.cause.isAbort = true ∧ s.mode = true ∧ s.checked = true) ∧
  (s.blockState = .rejected → s.cause.isRejection = true ∧ s.ovr = false ∧ (s.cause = .sizeRange → s.info = 0))

/-- The bounds of PTR along UPROG(N) (R162): in `[0, 63]` before TERM, in `[1, 64]` from TERM to FLUSH, in
`[0, 56]` after FLUSH. -/
abbrev PointerPhase (s : State) : Prop :=
  s.blockState = .busy →
    (s.upc.toNat = paddingStart s.bufferSize + 1 → s.ptr.toNat ≤ 63) ∧
    (s.upc.toNat = paddingStart s.bufferSize + 2 ∨ s.upc.toNat = paddingStart s.bufferSize + 3 → 1 ≤ s.ptr.toNat) ∧
    (paddingStart s.bufferSize + 4 ≤ s.upc.toNat → s.ptr.toNat ≤ 56)

/-- The invariant of the block. -/
abbrev Legal (s : State) : Prop :=
  BufferCanonical s ∧ PointersInBlock s ∧ StatusLegal s ∧ PointerPhase s

/-! Commands as a whole. -/

/-- A command was just accepted and the host does nothing more (R101, R282). -/
abbrev JustAccepted (s : State) : Prop :=
  s.blockState = .busy ∧ s.upc = 0 ∧ s.size.toNat ≤ s.bufferSize ∧ s.hostActions = []

/-- The message of the running command: buffer bytes `[0, SIZE)`. -/
def message (s : State) : List Byte := (List.range s.size.toNat).map (Memory.lookup s.buffer)

/-- "Slack bytes": buffer positions beyond the message, all zero (R16). -/
def SlackZero (s : State) : Prop := ∀ k, s.size.toNat ≤ k → k < s.bufferSize → memRead s k = some 0

/-- Byte `j` of window `i` passes VBLK's tests: it is the buffer's byte inside the message, and outside both
the candidate's byte and the buffer's are zero (R132). -/
def WindowBytePasses (s : State) (i : Nat) (j : Fin 64) : Prop :=
  (64 * i + j.val < s.size.toNat → memRead s (64 * i + j.val) = some s.hblk[j]) ∧
  (s.size.toNat ≤ 64 * i + j.val → s.hblk[j] = 0 ∧
    (64 * i + j.val < s.bufferSize → memRead s (64 * i + j.val) = some 0))

/-! The digest of FIPS 180-4 as R163 and R112 give it. -/

/-- `z`: the zero bytes of the padding of a message of `len` bytes (R163). -/
def paddingZeros (len : Nat) : Nat := (119 - len % 64) % 64

/-- `message || 0x80 || 0x00^z || bytes_BE64(8 * SIZE)` (R163). -/
def paddedMessage (m : List Byte) : List Byte :=
  m ++ [0x80] ++ List.replicate (paddingZeros m.length) 0 ++
    (List.range 8).map (byteOfDWord (BitVec.ofNat 64 (8 * m.length)))

/-- Block `i` of a list of bytes. -/
def blockAt (bytes : List Byte) (i : Nat) : Vector Byte 64 :=
  Vector.ofFn fun j => bytes.getD (64 * i + j.val) 0

/-- The compressions of the blocks in order, from the initial hash value (R112, R190): the digest owed is that of
SHA256_COMPRESS, so a claim that a command leaves it rests on the named property of COMPRESS_FN (R192). -/
def hashBlocks (bytes : List Byte) : Vector Word 8 :=
  (List.range (bytes.length / 64)).foldl (fun hs i => sha256Compress (packWords (blockAt bytes i)) hs) initialHash

/-- The SHA-256 digest of a message. -/
def sha256 (m : List Byte) : Vector Byte 32 := digestBytes (hashBlocks (paddedMessage m))

end Sys2Proof.Machine
end

