-- ==== Sys2Proof/Certificates/Slice0/Obligations.lean ====
section
/-! DEFINITION. The statements for the provers, from the numbered rules of spec/. In every statement about an
instruction, `t = { s with ... }` is its frame: every field not named is as before, and `KeepsMemory s t` says it
of every byte of the message buffer. -/

open Sys2Proof Sys2Proof.Machine

/-! Encoding. -/

/-- R71 to R74: no bit of an encoding is dropped. -/
def Obligations.EncodedInstructionDecodesToItself : Prop :=
  ∀ i : Instr, i.wellFormed = true → decode i.format (encode i) = .ok i

/-- R71 to R76: a word that decodes is the word of the instruction it decodes to, so no two words spell one
instruction and a decoded index fits IDX. -/
def Obligations.DecodedInstructionEncodesToItsWord : Prop :=
  ∀ (f : Format) (w : Word) (i : Instr),
    decode f w = .ok i → i.wellFormed = true ∧ i.format = f ∧ encode i = w

/-- R71 to R74: the legal words as numbers, `256 * C + OP` and `64 * IDX + UOP`. -/
def Obligations.WordsAsNumbers : Prop :=
  ∀ (w : Word) (c : Bool) (n : Nat),
    (decode .cmd32 w = .ok (.hashVar c) ↔ w.toNat = 0x01 + 256 * c.toNat) ∧
    (decode .cmd32 w = .ok (.hashFull c) ↔ w.toNat = 0x02 + 256 * c.toNat) ∧
    (decode .uop32 w = .ok .init ↔ w.toNat = 0x01) ∧
    (decode .uop32 w = .ok (.build n) ↔ w.toNat = 64 * n + 0x02) ∧
    (decode .uop32 w = .ok (.vblk n) ↔ w.toNat = 64 * n + 0x03) ∧
    (decode .uop32 w = .ok (.sel n) ↔ w.toNat = 64 * n + 0x04) ∧
    (decode .uop32 w = .ok .pack ↔ w.toNat = 0x05) ∧
    (decode .uop32 w = .ok (.cmpb n) ↔ w.toNat = 64 * n + 0x06) ∧
    (decode .uop32 w = .ok .ptrwrap ↔ w.toNat = 0x07) ∧
    (decode .uop32 w = .ok .term ↔ w.toNat = 0x08) ∧
    (decode .uop32 w = .ok .flush ↔ w.toNat = 0x09) ∧
    (decode .uop32 w = .ok .attlen ↔ w.toNat = 0x0A) ∧
    (decode .uop32 w = .ok .vlen ↔ w.toNat = 0x0B) ∧
    (decode .uop32 w = .ok .cmpu ↔ w.toNat = 0x0C) ∧
    (decode .uop32 w = .ok .digest ↔ w.toNat = 0x0D)

/-- R76: which micro-words are reserved, and that UPROG(N) holds none. -/
def Obligations.ReservedMicroWordsAreNeverFetched : Prop :=
  (∀ w : Word, (∃ e, decode .uop32 w = .error e) ↔
    (w.toNat % 64 = 0 ∨ 14 ≤ w.toNat % 64 ∨
      (w.toNat % 64 ≠ 2 ∧ w.toNat % 64 ≠ 3 ∧ w.toNat % 64 ≠ 4 ∧ w.toNat % 64 ≠ 6 ∧ w.toNat / 64 ≠ 0))) ∧
  (∀ (n : Word) (u : Word), u ∈ uprog n.toNat → ∃ i, decode .uop32 u = .ok i)

/-- R79: the words it gives are the encodings of the instructions it names and decode to them, and the two
command words it calls illegal decode to none. -/
def Obligations.ExampleWordsOfTheSpecDecode : Prop :=
  encode (.build 3) = 0x000000C2 ∧ encode (.cmpb 7) = 0x000001C6 ∧ encode (.sel 0) = 0x00000004 ∧
  encode (.hashVar true) = 0x00000101 ∧
  decode .uop32 0x000000C2 = .ok (.build 3) ∧ decode .uop32 0x000001C6 = .ok (.cmpb 7) ∧
  decode .uop32 0x00000004 = .ok (.sel 0) ∧ decode .cmd32 0x00000101 = .ok (.hashVar true) ∧
  (decode .cmd32 0x00000201).toOption = none ∧ (decode .cmd32 0x00000003).toOption = none

/-! The micro-program and the step. -/

/-- R104, R107: the word fetched at index `k` is the `k`-th word of the list R104 writes. -/
def Obligations.FetchReadsTheMicroProgram : Prop :=
  ∀ n k : Nat, fetchWord n k = (uprog n)[k]?

/-- R106: LEN(N), its bound, and the examples the rule gives. -/
def Obligations.MicroProgramLength : Prop :=
  (∀ n : Nat, (uprog n).length = 1 + 5 * (n / 64) + (if n % 64 ≠ 0 then 3 else 0) + 9) ∧
  (∀ n : Word, (uprog n.toNat).length ≤ 5 * (2 ^ 26 - 1) + 13) ∧
  (uprog 0).length = 10 ∧ (uprog 1).length = 13 ∧ (uprog 64).length = 15 ∧ (uprog 100).length = 18 ∧
  (uprog 128).length = 20 ∧ (uprog 447).length = 43 ∧ (uprog 512).length = 50

/-- A step runs the decoded instruction. R26, R100: a legal word written to CMD runs its command, the host action
consumed. R107: while BUSY a step performs the micro-operation UPROG(N)[UPC], with no host action, with the host
idle (that action consumed), and with the host waiting (the action kept). R107, R263: "No step occurs while
STATE != BUSY"; the step of the model is then no change. -/
def Obligations.StepRunsTheDecodedInstruction : Prop :=
  (∀ (s : State) (w : Word) (i : Instr) (rest : List HostAction),
    s.hostActions = .writeReg .cmd w :: rest → decode .cmd32 w = .ok i →
      step s = exec i { s with hostActions := rest }) ∧
  (∀ (s : State) (u : Word) (i : Instr) (rest : List HostAction),
    s.blockState = .busy → (uprog s.bufferSize)[s.upc.toNat]? = some u → decode .uop32 u = .ok i →
      (s.hostActions = [] → step s = exec i s) ∧
      (s.hostActions = .idle :: rest → step s = exec i { s with hostActions := rest }) ∧
      (s.hostActions = .wait :: rest → step s = exec i s)) ∧
  (∀ (s : State) (rest : List HostAction), s.blockState ≠ .busy →
    (s.hostActions = [] → step s = .next s) ∧
    (s.hostActions = .idle :: rest → step s = .next { s with hostActions := rest }) ∧
    (s.hostActions = .wait :: rest → step s = .next { s with hostActions := rest }))

/-- R270: RESET in any state, that the sequencer then makes no step, and that nothing else leaves ABORTED. -/
def Obligations.ResetClearsStatusAndStopsTheSequencer : Prop :=
  (∀ (s : State) (rest : List HostAction), s.hostActions = .reset :: rest →
    ∃ t, step s = .next t ∧ statusWord t = 0 ∧ t.info = 0 ∧ t.blockState = .idle ∧
      t = { s with hostActions := rest, blockState := .idle, ovr := false, cause := .none, mode := false, info := 0 } ∧
      KeepsMemory s t ∧ sequencerStep exec t = .next t ∧ (rest = [] → step t = .next t)) ∧
  (∀ s t : State, s.blockState = .aborted → (∀ rest, s.hostActions ≠ .reset :: rest) → step s = .next t →
    t.blockState = .aborted)

/-- R270 to R272: the values the spec gives after reset, and that the block then waits. -/
def Obligations.ResetStateIsIdleAndWaits : Prop :=
  statusWord State.reset = 0 ∧ State.reset.info = 0 ∧ hostRead .cmd State.reset = .ok 0 ∧
    hostRead .capacity State.reset = .ok Config.capacity ∧ step State.reset = .next State.reset

/-- The invariant holds after reset. -/
def Obligations.ResetStateIsLegal : Prop := Legal State.reset

/-! Commands. -/

/-- R101 with the sizes of R110 and R111: acceptance. DIGEST is unspecified from here to DONE, so nothing is said
of it. -/
def Obligations.AcceptanceLatchesTheCommand : Prop :=
  ∀ (c : Bool) (s : State), AcceptsCommands s →
    (s.msgSize.toNat ≤ s.bufferSize →
      ∃ t, exec (.hashVar c) s = .next t ∧
        t = { s with
          size := s.msgSize, checked := c, mode := c, blockState := .busy, cause := .none, info := 0, ovr := false,
          upc := 0, digest := t.digest, freeCount := t.freeCount } ∧ KeepsMemory s t) ∧
    (∃ t, exec (.hashFull c) s = .next t ∧ t.size.toNat = s.bufferSize ∧
        t = { s with
          size := t.size, checked := c, mode := c, blockState := .busy, cause := .none, info := 0, ovr := false,
          upc := 0, digest := t.digest, freeCount := t.freeCount } ∧ KeepsMemory s t)

/-- R242, R240: SIZE_RANGE. HASH_FULL is never rejected for size. -/
def Obligations.SizeAboveCapacityIsRejected : Prop :=
  causeCode .sizeRange = 9 ∧
  ∀ (c : Bool) (s : State), AcceptsCommands s →
    (s.bufferSize < s.msgSize.toNat →
      exec (.hashVar c) s =
        .next { s with blockState := .rejected, cause := .sizeRange, info := 0, ovr := false }) ∧
    (∀ t, exec (.hashFull c) s = .next t → t.blockState = .busy)

/-- R75, R241, R240: a word with a reserved OP or a bit of RSV set. -/
def Obligations.IllegalCommandIsRejected : Prop :=
  causeCode .illegalCmd = 8 ∧
  ∀ (s : State) (w : Word) (rest : List HostAction),
    AcceptsCommands s → s.hostActions = .writeReg .cmd w :: rest →
    ((w.toNat % 256 ≠ 1 ∧ w.toNat % 256 ≠ 2) ∨ w.toNat / 512 ≠ 0) →
      step s = .next { s with
        hostActions := rest, blockState := .rejected, cause := .illegalCmd, info := w, ovr := false }

/-- R100, R243, R244: any word issued while BUSY, legal or not. -/
def Obligations.CommandWhileBusyOnlySetsOvr : Prop :=
  ∀ (s : State) (w : Word) (rest : List HostAction),
    s.blockState = .busy → s.hostActions = .writeReg .cmd w :: rest →
      step s = .next { s with hostActions := rest, ovr := true }

/-- R235, R236, R100: while ABORTED nothing but RESET changes a register of the block, and a command, legal or
not, is ignored: the step completes and nothing changes but that the host's action is consumed. -/
def Obligations.AbortIsStickyUntilReset : Prop :=
  (∀ s t : State, s.blockState = .aborted → (∀ rest, s.hostActions ≠ .reset :: rest) → step s = .next t →
    t = { s with hostActions := t.hostActions, msgSize := t.msgSize, buffer := t.buffer }) ∧
  (∀ (s : State) (w : Word) (rest : List HostAction),
    s.blockState = .aborted → s.hostActions = .writeReg .cmd w :: rest →
      step s = .next { s with hostActions := rest })

/-! Micro-operations. -/

/-- R193, R190; and INIT is the first micro-operation of every UPROG(N). -/
def Obligations.InitLoadsTheInitialHash : Prop :=
  (∀ n : Nat, (uprog n)[0]? = some 0x00000001) ∧
  ∀ s : State, ∃ t, exec .init s = .next t ∧
    t.h = #v[0x6a09e667, 0xbb67ae85, 0x3c6ef372, 0xa54ff53a, 0x510e527f, 0x9b05688c, 0x1f83d9ab, 0x5be0cd19] ∧
    (∀ j : Fin 64, t.blk[j] = 0) ∧ t.ptr = 0 ∧
    t = { s with h := t.h, blk := t.blk, ptr := t.ptr, upc := s.upc + 1 } ∧ KeepsMemory s t

/-- R130, R131: the deterministic hint (HINT_SOURCE = builder, or unchecked mode). -/
def Obligations.BuildCopiesTheWindow : Prop :=
  ∀ (s : State) (i : Nat), s.size.toNat ≤ s.bufferSize → (s.hintSource = .builder ∨ s.checked = false) →
    ∃ t, exec (.build i) s = .next t ∧
      (∀ j : Fin 64,
        (64 * i + j.val < s.size.toNat → memRead s (64 * i + j.val) = some t.hblk[j]) ∧
        (s.size.toNat ≤ 64 * i + j.val → t.hblk[j] = 0)) ∧
      t.hptr.toNat = min 64 (s.size.toNat - 64 * i) ∧
      t = { s with hblk := t.hblk, hptr := t.hptr, upc := s.upc + 1 } ∧ KeepsMemory s t

/-- R130, R158, R9: under oracle in checked mode BUILD and ATTLEN take draws, within their types; the rest of
their effect is as without. -/
def Obligations.DrawnHintsTouchOnlyTheHint : Prop :=
  ∀ s : State, s.hintSource = .oracle → s.checked = true →
    (∀ i : Nat, s.size.toNat ≤ s.bufferSize →
      ∃ t, exec (.build i) s = .next t ∧ t.hptr.toNat ≤ 64 ∧
        t = { s with hblk := t.hblk, hptr := t.hptr, upc := s.upc + 1, freeCount := t.freeCount } ∧
        KeepsMemory s t) ∧
    (∃ t, exec .attlen s = .next t ∧ t.last = s.blk ∧
        t = { s with blk := t.blk, last := t.last, upc := s.upc + 1, freeCount := t.freeCount } ∧ KeepsMemory s t)

/-- R132, R133: a checked VBLK whose window passes every test. -/
def Obligations.VblkVerifiesAGoodWindow : Prop :=
  ∀ (s : State) (i : Nat), s.checked = true → s.size.toNat ≤ s.bufferSize →
    (∀ j : Fin 64, WindowBytePasses s i j) →
      ∃ t, exec (.vblk i) s = .next t ∧ t.vptr.toNat = min 64 (s.size.toNat - 64 * i) ∧
        t = { s with vptr := t.vptr, upc := s.upc + 1 } ∧ KeepsMemory s t

/-- R133: what a checked VBLK that completes establishes, whatever the hint. -/
def Obligations.CompletedVblkEstablishesTheWindow : Prop :=
  ∀ (s t : State) (i : Nat), s.checked = true → s.blockState ≠ .aborted →
    exec (.vblk i) s = .next t → t.blockState ≠ .aborted →
      (∀ j : Fin 64, WindowBytePasses s i j) ∧ t.vptr.toNat = min 64 (s.size.toNat - 64 * i)

/-- R132, R231, R233: VBLK reports the first failing test, bytes in ascending order. -/
def Obligations.VblkReportsTheFirstFailure : Prop :=
  ∀ (s : State) (i : Nat) (j : Fin 64), s.checked = true → s.size.toNat ≤ s.bufferSize →
    (∀ j' : Fin 64, j' < j → WindowBytePasses s i j') → ¬ WindowBytePasses s i j →
      ∃ (c : Cause) (n : Word),
        exec (.vblk i) s = .next { s with blockState := .aborted, cause := c, info := n } ∧
        ((64 * i + j.val < s.size.toNat ∧ c = .blockByteMismatch ∧ n.toNat = 64 * i + j.val) ∨
          (s.size.toNat ≤ 64 * i + j.val ∧ s.hblk[j] ≠ 0 ∧ c = .blockPadNonzero ∧ n.toNat = j.val) ∨
          (s.size.toNat ≤ 64 * i + j.val ∧ s.hblk[j] = 0 ∧ c = .slackNonzero ∧ n.toNat = 64 * i + j.val))

/-- R132, R160, R234: in unchecked mode the verifiers do nothing. -/
def Obligations.UncheckedVerifiersDoNothing : Prop :=
  ∀ s : State, s.checked = false →
    (∀ i : Nat, exec (.vblk i) s = .next { s with upc := s.upc + 1 }) ∧
    exec .vlen s = .next { s with upc := s.upc + 1 }

/-- R136. -/
def Obligations.SelTakesWindowsOfTheMessage : Prop :=
  ∀ (s : State) (i : Nat), ∃ t, exec (.sel i) s = .next t ∧
    (64 * i < s.size.toNat → t.blk = s.hblk ∧ (s.checked = true → t.ptr = s.vptr) ∧
      (s.checked = false → t.ptr = s.hptr)) ∧
    (s.size.toNat ≤ 64 * i → t.blk = s.blk ∧ t.ptr = s.ptr) ∧
    t = { s with blk := t.blk, ptr := t.ptr, upc := s.upc + 1 } ∧ KeepsMemory s t

/-- R180: each word is the big-endian number of its four bytes. -/
def Obligations.PackIsBigEndian : Prop :=
  ∀ s : State, ∃ t, exec .pack s = .next t ∧
    (∀ (j : Nat) (h : j < 16),
      t.w[j].toNat = s.blk[4 * j].toNat * 2 ^ 24 + s.blk[4 * j + 1].toNat * 2 ^ 16 +
        s.blk[4 * j + 2].toNat * 2 ^ 8 + s.blk[4 * j + 3].toNat) ∧
    t = { s with w := t.w, upc := s.upc + 1 } ∧ KeepsMemory s t

/-- R195, R192. -/
def Obligations.CmpbCompressesFullWindows : Prop :=
  ∀ (s : State) (i : Nat), ∃ t, exec (.cmpb i) s = .next t ∧
    (64 * i < s.size.toNat ∧ s.ptr = 64 → t.h = sha256Compress s.w s.h) ∧
    (s.size.toNat ≤ 64 * i ∨ s.ptr ≠ 64 → t.h = s.h) ∧
    t = { s with h := t.h, upc := s.upc + 1 } ∧ KeepsMemory s t

/-- R156, R192. -/
def Obligations.FlushCompressesWhenTheLengthDoesNotFit : Prop :=
  ∀ s : State, ∃ t, exec .flush s = .next t ∧
    (56 < s.ptr.toNat → t.h = sha256Compress s.w s.h ∧ t.ptr = 0) ∧
    (s.ptr.toNat ≤ 56 → t.h = s.h ∧ t.ptr = s.ptr) ∧
    t = { s with h := t.h, ptr := t.ptr, upc := s.upc + 1 } ∧ KeepsMemory s t

/-- R197, R192. -/
def Obligations.CmpuAlwaysCompresses : Prop :=
  ∀ s : State, ∃ t, exec .cmpu s = .next t ∧ t.h = sha256Compress s.w s.h ∧
    t = { s with h := t.h, upc := s.upc + 1 } ∧ KeepsMemory s t

/-- R152. -/
def Obligations.PtrwrapEmptiesAFullPointer : Prop :=
  ∀ s : State, ∃ t, exec .ptrwrap s = .next t ∧ (s.ptr = 64 → t.ptr = 0) ∧ (s.ptr ≠ 64 → t.ptr = s.ptr) ∧
    t = { s with ptr := t.ptr, upc := s.upc + 1 } ∧ KeepsMemory s t

/-- R154, with PTR in [0, 63] as R162 gives it. -/
def Obligations.TermWritesTheTerminator : Prop :=
  ∀ s : State, s.ptr.toNat ≤ 63 → ∃ t, exec .term s = .next t ∧ t.ptr.toNat = s.ptr.toNat + 1 ∧
    (∀ j : Fin 64, (j.val = s.ptr.toNat → t.blk[j] = 0x80) ∧ (j.val ≠ s.ptr.toNat → t.blk[j] = s.blk[j])) ∧
    t = { s with blk := t.blk, ptr := t.ptr, upc := s.upc + 1 } ∧ KeepsMemory s t

/-- The model's choice (log entry 11) where R162 says no run comes: TERM with PTR past the block, and a checked
VLEN with PTR past the block whose other tests pass. -/
def Obligations.PointerPastTheBlockStops : Prop :=
  ∀ s : State,
    (64 ≤ s.ptr.toNat → exec .term s = .fault .pointerPastBlock) ∧
    (64 < s.ptr.toNat → s.checked = true → s.blk = s.last → (lengthField s.blk).toNat = 8 * s.size.toNat →
      exec .vlen s = .fault .pointerPastBlock)

/-- R158 (the deterministic encoder): zero-fill and the big-endian bit length. -/
def Obligations.AttlenWritesTheLength : Prop :=
  ∀ s : State, (s.hintSource = .builder ∨ s.checked = false) → ∃ t, exec .attlen s = .next t ∧
    t.last = s.blk ∧
    (∀ j : Fin 64, (j.val < s.ptr.toNat → j.val < 56 → t.blk[j] = s.blk[j]) ∧
      (s.ptr.toNat ≤ j.val → j.val < 56 → t.blk[j] = 0)) ∧
    (s.size.toNat < 2 ^ 61 →
      t.blk[56].toNat * 2 ^ 56 + t.blk[57].toNat * 2 ^ 48 + t.blk[58].toNat * 2 ^ 40 + t.blk[59].toNat * 2 ^ 32 +
        t.blk[60].toNat * 2 ^ 24 + t.blk[61].toNat * 2 ^ 16 + t.blk[62].toNat * 2 ^ 8 + t.blk[63].toNat =
          s.size.toNat * 8) ∧
    t = { s with blk := t.blk, last := t.last, upc := s.upc + 1 } ∧ KeepsMemory s t

/-- R160: a checked VLEN whose tests pass. -/
def Obligations.VlenVerifiesAGoodBlock : Prop :=
  ∀ s : State, s.checked = true → s.ptr.toNat ≤ 64 → (lengthField s.blk).toNat = s.size.toNat * 8 →
    (∀ j : Fin 64, j.val < s.ptr.toNat → s.blk[j] = s.last[j]) →
    (∀ j : Fin 64, s.ptr.toNat ≤ j.val → j.val < 56 → s.blk[j] = 0) →
      exec .vlen s = .next { s with upc := s.upc + 1 }

/-- R116, R160: a checked VLEN that completes leaves no freedom to the encoder: the block is the one R158 makes
of LAST. -/
def Obligations.CompletedVlenFixesTheBlock : Prop :=
  ∀ s t : State, s.checked = true → s.blockState ≠ .aborted → s.ptr.toNat ≤ 56 → s.size.toNat < 2 ^ 61 →
    exec .vlen s = .next t → t.blockState ≠ .aborted → s.blk = paddedBlock { s with blk := s.last }

/-- R160, R231, R233: VLEN reports the first failing test: trailer, then prefix, then fill. -/
def Obligations.VlenReportsTheFirstFailure : Prop :=
  ∀ s : State, s.checked = true →
    ((lengthField s.blk).toNat ≠ s.size.toNat * 8 →
      exec .vlen s = .next { s with blockState := .aborted, cause := .lenTrailerMismatch, info := 56 }) ∧
    ((lengthField s.blk).toNat = s.size.toNat * 8 →
      (∀ j : Fin 64, j.val < s.ptr.toNat → s.blk[j] ≠ s.last[j] →
        (∀ j' : Fin 64, j' < j → s.blk[j'] = s.last[j']) →
          exec .vlen s =
            .next { s with blockState := .aborted, cause := .lenPrefixMismatch, info := BitVec.ofNat 32 j.val }) ∧
      (∀ j : Fin 64, s.ptr.toNat ≤ j.val → j.val < 56 → s.blk[j] ≠ 0 →
        (∀ j' : Fin 64, j'.val < s.ptr.toNat → s.blk[j'] = s.last[j']) →
        (∀ j' : Fin 64, s.ptr.toNat ≤ j'.val → j' < j → s.blk[j'] = 0) →
          exec .vlen s =
            .next { s with blockState := .aborted, cause := .lenFillNonzero, info := BitVec.ofNat 32 j.val }))

/-- R221, R222: byte `D[4j + b]` is bits [31 - 8b : 24 - 8b] of `H[j]`, and the word view gives `H[j]` back. -/
def Obligations.DigestSerialisesTheHash : Prop :=
  ∀ s : State, ∃ t, exec .digest s = .next t ∧ t.blockState = .done ∧
    (∀ (j : Nat) (hj : j < 8) (b : Nat) (hb : b < 4),
      t.digest[4 * j + b].toNat = s.h[j].toNat / 2 ^ (24 - 8 * b) % 256) ∧
    (∀ j : Fin 8, hostRead (.digestWord j) t = .ok s.h[j]) ∧
    t = { s with digest := t.digest, blockState := .done, upc := s.upc + 1 } ∧ KeepsMemory s t

/-- R182: packing the four bytes of a word gives the word, and the bytes of a packed word are the four bytes. -/
def Obligations.PackingAndDigestLayoutAreInverse : Prop :=
  (∀ w : Word, be32 (byteOfWord w 0) (byteOfWord w 1) (byteOfWord w 2) (byteOfWord w 3) = w) ∧
  (∀ b0 b1 b2 b3 : Byte,
    byteOfWord (be32 b0 b1 b2 b3) 0 = b0 ∧ byteOfWord (be32 b0 b1 b2 b3) 1 = b1 ∧
    byteOfWord (be32 b0 b1 b2 b3) 2 = b2 ∧ byteOfWord (be32 b0 b1 b2 b3) 3 = b3)

/-- R192: COMPRESS_FN is SHA256_COMPRESS on all inputs. R202: the schedule has 64 words, the first sixteen are the
block's, and each later one is given by the four words the rule names. R203: from H, sixty-four rounds, round `t`
with `K[t]` and `X[t]`; R204: H is added to the result. R205: the worked example of the reference. -/
def Obligations.CompressionFollowsTheReference : Prop :=
  (∀ (w : Vector Word 16) (h : Vector Word 8), compressFn w h = sha256Compress w h) ∧
  (∀ w : Vector Word 16, (schedule w).length = 64 ∧
    (∀ (t : Nat) (h : t < 16), (schedule w)[t]? = some w[t]) ∧
    (∀ t : Nat, 16 ≤ t → t < 64 →
      (schedule w)[t]? = some (smallSigma1 ((schedule w).getD (t - 2) 0) + (schedule w).getD (t - 7) 0 +
        smallSigma0 ((schedule w).getD (t - 15) 0) + (schedule w).getD (t - 16) 0))) ∧
  roundConstants.length = 64 ∧
  (∀ (w : Vector Word 16) (h : Vector Word 8), ∃ v : Nat → Working,
    v 0 = { a := h[0], b := h[1], c := h[2], d := h[3], e := h[4], f := h[5], g := h[6], h := h[7] } ∧
    (∀ t : Nat, t < 64 →
      let t1 := (v t).h + bigSigma1 (v t).e + choose (v t).e (v t).f (v t).g + roundConstants.getD t 0 +
        (schedule w).getD t 0
      let t2 := bigSigma0 (v t).a + majority (v t).a (v t).b (v t).c
      (v (t + 1)).h = (v t).g ∧ (v (t + 1)).g = (v t).f ∧ (v (t + 1)).f = (v t).e ∧
        (v (t + 1)).e = (v t).d + t1 ∧ (v (t + 1)).d = (v t).c ∧ (v (t + 1)).c = (v t).b ∧
        (v (t + 1)).b = (v t).a ∧ (v (t + 1)).a = t1 + t2) ∧
    sha256Compress w h =
      #v[(v 64).a + h[0], (v 64).b + h[1], (v 64).c + h[2], (v 64).d + h[3],
         (v 64).e + h[4], (v 64).f + h[5], (v 64).g + h[6], (v 64).h + h[7]]) ∧
  (∀ w : Vector Word 16, w = #v[0x61626380, 0, 0, 0, 0, 0, 0, 0, 0, 0, 0, 0, 0, 0, 0, 0x18] →
    (schedule w)[16]? = some 0x61626380 ∧ (schedule w)[17]? = some 0x000f0000 ∧
    (schedule w)[18]? = some 0x7da86405 ∧ (schedule w)[19]? = some 0x600003c6 ∧
    (schedule w)[63]? = some 0x12b1edeb ∧
    sha256Compress w initialHash =
      #v[0xba7816bf, 0x8f01cfea, 0x414140de, 0x5dae2223, 0xb00361a3, 0x96177a9c, 0xb410ff61, 0xf20015ad])

/-! Rules over every instruction. -/

/-- R231, R232, R234: an abort writes STATE, CAUSE and INFO and nothing else, is raised by VBLK or VLEN, and only
in checked mode. -/
def Obligations.AbortsArePreciseAndChecked : Prop :=
  ∀ (i : Instr) (s t : State), exec i s = .next t → s.blockState ≠ .aborted → t.blockState = .aborted →
    t = { s with blockState := .aborted, cause := t.cause, info := t.info } ∧ t.cause.isAbort = true ∧
      s.checked = true ∧ ((∃ n, i = .vblk n) ∨ i = .vlen)

/-- R194, R198: after INIT, H is written by CMPB, FLUSH and CMPU alone, and only with a compression of W and H
(by R192, SHA256_COMPRESS of them). -/
def Obligations.HashChangesOnlyByCompression : Prop :=
  ∀ (i : Instr) (s t : State), exec i s = .next t → i ≠ .init → t.h ≠ s.h →
    ((∃ n, i = .cmpb n) ∨ i = .flush ∨ i = .cmpu) ∧ t.h = sha256Compress s.w s.h

/-- R20, R29, R51: no instruction writes the buffer, the instance's parameters or a host input, and no step
changes the parameters. -/
def Obligations.NoInstructionWritesTheInputs : Prop :=
  (∀ (i : Instr) (s t : State), exec i s = .next t → KeepsInputs s t ∧ KeepsMemory s t) ∧
  (∀ s t : State, step s = .next t → t.capacity = s.capacity ∧ t.hintSource = s.hintSource)

/-- R108: UPC after a micro-operation, completed or aborted; DIGEST, and it alone, ends at DONE, after which the
sequencer makes no step. -/
def Obligations.MicroOperationsAdvanceUpcByOne : Prop :=
  ∀ (i : Instr) (s t : State), i.format = .uop32 → s.blockState = .busy → exec i s = .next t →
    (t.blockState = .aborted → t.upc = s.upc) ∧ (t.blockState ≠ .aborted → t.upc = s.upc + 1) ∧
    (t.blockState = .done ↔ i = .digest) ∧ (i = .digest → sequencerStep exec t = .next t)

/-- R23 to R25, R28, R30 to R38: the instructions that write each register, and to what for STATE and UPC. -/
def Obligations.EveryRegisterHasItsWriters : Prop :=
  ∀ (i : Instr) (s t : State), exec i s = .next t →
    (t.size ≠ s.size ∨ t.checked ≠ s.checked ∨ t.mode ≠ s.mode → i.format = .cmd32) ∧
    (t.h ≠ s.h → i = .init ∨ (∃ n, i = .cmpb n) ∨ i = .flush ∨ i = .cmpu) ∧
    (t.blk ≠ s.blk → i = .init ∨ (∃ n, i = .sel n) ∨ i = .term ∨ i = .attlen) ∧
    (t.ptr ≠ s.ptr → i = .init ∨ (∃ n, i = .sel n) ∨ i = .ptrwrap ∨ i = .term ∨ i = .flush) ∧
    (t.w ≠ s.w → i = .pack) ∧
    (t.hblk ≠ s.hblk ∨ t.hptr ≠ s.hptr → ∃ n, i = .build n) ∧
    (t.vptr ≠ s.vptr → (∃ n, i = .vblk n) ∧ s.checked = true) ∧
    (t.last ≠ s.last → i = .attlen) ∧
    (t.digest ≠ s.digest → i = .digest ∨ (i.format = .cmd32 ∧ t.blockState = .busy)) ∧
    (t.upc ≠ s.upc → (i.format = .uop32 ∧ t.upc = s.upc + 1) ∨
      (i.format = .cmd32 ∧ t.blockState = .busy ∧ t.upc = 0)) ∧
    (t.blockState ≠ s.blockState → (i.format = .cmd32 ∧ (t.blockState = .busy ∨ t.blockState = .rejected)) ∨
      (i = .digest ∧ t.blockState = .done) ∨
      (((∃ n, i = .vblk n) ∨ i = .vlen) ∧ s.checked = true ∧ t.blockState = .aborted)) ∧
    (t.ovr ≠ s.ovr → i.format = .cmd32) ∧
    (t.cause ≠ s.cause ∨ t.info ≠ s.info → i.format = .cmd32 ∨
      (((∃ n, i = .vblk n) ∨ i = .vlen) ∧ s.checked = true ∧ t.blockState = .aborted))

/-- R52: the buffer reaches BUILD and a checked VBLK alone. -/
def Obligations.OnlyBuildAndVblkReadTheBuffer : Prop :=
  ∀ (i : Instr) (s t : State) (b : List Host.Cell), (∀ n, i ≠ .build n) →
    ((∀ n, i ≠ .vblk n) ∨ s.checked = false) → exec i s = .next t →
      exec i { s with buffer := b } = .next { t with buffer := b }

/-- R27, R111: MSG_SIZE reaches nothing but HASH_VAR. -/
def Obligations.OnlyHashVarReadsMsgSize : Prop :=
  ∀ (i : Instr) (s t : State) (v : DWord), (∀ c, i ≠ .hashVar c) → exec i s = .next t →
    exec i { s with msgSize := v } = .next { t with msgSize := v }

/-- R116: in checked mode no instruction reads HPTR. -/
def Obligations.CheckedModeNeverReadsHptr : Prop :=
  ∀ (i : Instr) (s t : State) (p : BitVec 7), s.checked = true → exec i s = .next t →
    ∃ q, exec i { s with hptr := p } = .next { t with hptr := q }

/-- R56, R280: while BUSY no step changes what a buffer read gives; a host write there has no move
(the model's refusal, log entry 9). -/
def Obligations.BufferIsStableWhileBusy : Prop :=
  ∀ s : State, s.blockState = .busy →
    (∀ t, step s = .next t → KeepsMemory s t) ∧
    (∀ k b rest, s.hostActions = .writeBuffer k b :: rest → step s = .refused .bufferWriteWhileBusy)

/-! The host's side. -/

/-- R50, R265: a host write of a buffer byte outside BUSY, and the model's fault for an index that is none of the
buffer's (log entry 8). -/
def Obligations.HostWriteChangesOneByte : Prop :=
  ∀ (s : State) (k : Nat) (b : Byte) (rest : List HostAction),
    s.blockState ≠ .busy → s.hostActions = .writeBuffer k b :: rest → Memory.wf s.buffer = true →
      (k < s.bufferSize → ∃ t, step s = .next t ∧ memRead t k = some b ∧
        (∀ k', k' ≠ k → memRead t k' = memRead s k') ∧ Memory.wf t.buffer = true ∧
        t = { s with hostActions := rest, buffer := t.buffer }) ∧
      (s.bufferSize ≤ k → step s = .fault (.bufferIndexOutOfRange k))

/-- R28, R281, I4: outside DONE a host read of D, by byte or by word, faults. In DONE it completes and changes
nothing but that the host's action is consumed; a byte reads as D holds it, zero-extended to the 32 bits of a read
(the model's choice, log entry 10), and a word is the big-endian number of its four bytes. -/
def Obligations.DigestIsReadOnlyWhenDone : Prop :=
  ∀ s : State,
    (s.blockState ≠ .done → (∀ j, hostRead (.digestByte j) s = .error .digestUnspecified) ∧
      (∀ j, hostRead (.digestWord j) s = .error .digestUnspecified) ∧
      (∀ j rest, s.hostActions = .readReg (.digestByte j) :: rest → step s = .fault .digestUnspecified) ∧
      (∀ j rest, s.hostActions = .readReg (.digestWord j) :: rest → step s = .fault .digestUnspecified)) ∧
    (s.blockState = .done →
      (∀ j : Fin 32, ∃ w, hostRead (.digestByte j) s = .ok w ∧ w.toNat = s.digest[j].toNat) ∧
      (∀ j : Fin 8, ∃ w, hostRead (.digestWord j) s = .ok w ∧
        w.toNat = s.digest[4 * j.val].toNat * 2 ^ 24 + s.digest[4 * j.val + 1].toNat * 2 ^ 16 +
          s.digest[4 * j.val + 2].toNat * 2 ^ 8 + s.digest[4 * j.val + 3].toNat) ∧
      (∀ j rest, s.hostActions = .readReg (.digestByte j) :: rest → step s = .next { s with hostActions := rest }) ∧
      (∀ j rest, s.hostActions = .readReg (.digestWord j) :: rest → step s = .next { s with hostActions := rest }))

/-- R24 to R29: the fields of STATUS as the host reads them, reads of the other registers, a write of STATUS, a write
of the other read-only registers, which has no effect either (the model's inference, log entry 13), and MSG_SIZE
driven by the host. -/
def Obligations.HostSeesTheRegisters : Prop :=
  ∀ s : State, hostRead .info s = .ok s.info ∧ hostRead .cmd s = .ok 0 ∧ hostRead .capacity s = .ok s.capacity ∧
    (∀ v rest, s.hostActions = .writeReg .status v :: rest → step s = .next { s with hostActions := rest }) ∧
    (∀ r v rest, r = .info ∨ r = .capacity ∨ (∃ j, r = .digestByte j) ∨ (∃ j, r = .digestWord j) →
      s.hostActions = .writeReg r v :: rest → step s = .next { s with hostActions := rest }) ∧
    (∀ r rest, s.hostActions = .readReg r :: rest → (∀ j, r ≠ .digestByte j) → (∀ j, r ≠ .digestWord j) →
      step s = .next { s with hostActions := rest }) ∧
    (∀ v rest, s.hostActions = .driveMsgSize v :: rest → step s = .next { s with hostActions := rest, msgSize := v }) ∧
    ∃ w, hostRead .status s = .ok w ∧
    w.toNat % 8 = (match s.blockState with
      | .idle => 0 | .busy => 1 | .done => 2 | .aborted => 3 | .rejected => 4) ∧
    w.toNat / 8 % 2 = s.ovr.toNat ∧
    w.toNat / 16 % 16 = (match s.cause with
      | .none => 0 | .blockByteMismatch => 1 | .blockPadNonzero => 2 | .slackNonzero => 3
      | .lenTrailerMismatch => 4 | .lenPrefixMismatch => 5 | .lenFillNonzero => 6
      | .illegalCmd => 8 | .sizeRange => 9) ∧
    w.toNat / 256 % 2 = s.mode.toNat ∧ w.toNat < 512

/-! Invariants. -/

/-- Every step keeps the invariant: the buffer's canonical form, the pointers' bounds (R34, R162), the fields of
STATUS that go with each STATE, and the pointer's bounds along UPROG(N) (R162). -/
def Obligations.EveryStepKeepsLegal : Prop :=
  ∀ s t : State, Legal s → step s = .next t → Legal t

/-- R51, R76, R162: from a legal state the block, left to itself, always has a next state: no read leaves the
buffer, no reserved micro-word is met, no pointer leaves its block. -/
def Obligations.LegalBlockNeverStops : Prop :=
  ∀ s : State, Legal s → s.hostActions = [] → ∃ t, step s = .next t

/-- R109, R286: a command ends, in DONE or ABORTED, after at most the steps that are left of LEN(N). -/
def Obligations.EveryCommandEnds : Prop :=
  ∀ s : State, Legal s → s.blockState = .busy → s.hostActions = [] →
    ∃ (k : Nat) (t : State), k ≤ (uprog s.bufferSize).length - s.upc.toNat ∧
      Sys2Proof.core.run k s = .next t ∧ (t.blockState = .done ∨ t.blockState = .aborted)

/-! Whole commands. -/

/-- The digest function of the statements below. R163 with R113: the padded message is the message, 0x80, the fewest
zero bytes that make it whole blocks, and eight bytes that are big-endian 8 * SIZE (its low 64 bits for a SIZE of
2^61 or more, log entry 14); it is `ceil((SIZE + 9) / 64)` blocks. R112, R190, R194, R222: from the initial hash value
each block is packed and compressed in order, and the digest serialises the result. 95_test_vectors.md V2, V1, V8:
the known answers. -/
def Obligations.DigestFunctionIsSha256 : Prop :=
  (∀ m : List Byte, (paddedMessage m).length = 64 * ((m.length + 9 + 63) / 64) ∧
    (paddedMessage m).take m.length = m ∧ (paddedMessage m)[m.length]? = some 0x80 ∧
    (∃ (z : Nat) (len : List Byte), paddedMessage m = m ++ [0x80] ++ List.replicate z 0 ++ len ∧
      (m.length + 1 + z + 8) % 64 = 0 ∧ (∀ z' : Nat, z' < z → (m.length + 1 + z' + 8) % 64 ≠ 0) ∧
      len.length = 8 ∧ len.foldl (fun n b => 256 * n + b.toNat) 0 = 8 * m.length % 2 ^ 64)) ∧
  hashBlocks [] = initialHash ∧
  (∀ (bytes : List Byte) (b : Vector Byte 64), bytes.length % 64 = 0 →
    hashBlocks (bytes ++ b.toList) = sha256Compress (packWords b) (hashBlocks bytes)) ∧
  (∀ m : List Byte, sha256 m = digestBytes (hashBlocks (paddedMessage m))) ∧
  sha256 [] = #v[0xe3, 0xb0, 0xc4, 0x42, 0x98, 0xfc, 0x1c, 0x14, 0x9a, 0xfb, 0xf4, 0xc8, 0x99, 0x6f, 0xb9, 0x24,
    0x27, 0xae, 0x41, 0xe4, 0x64, 0x9b, 0x93, 0x4c, 0xa4, 0x95, 0x99, 0x1b, 0x78, 0x52, 0xb8, 0x55] ∧
  sha256 [0xbd] = #v[0x68, 0x32, 0x57, 0x20, 0xaa, 0xbd, 0x7c, 0x82, 0xf3, 0x0f, 0x55, 0x4b, 0x31, 0x3d, 0x05, 0x70,
    0xc9, 0x5a, 0xcc, 0xbb, 0x7d, 0xc4, 0xb5, 0xaa, 0xe1, 0x12, 0x04, 0xc0, 0x8f, 0xfe, 0x73, 0x2b] ∧
  sha256 [0x61, 0x62, 0x63] = #v[0xba, 0x78, 0x16, 0xbf, 0x8f, 0x01, 0xcf, 0xea, 0x41, 0x41, 0x40, 0xde, 0x5d, 0xae,
    0x22, 0x23, 0xb0, 0x03, 0x61, 0xa3, 0x96, 0x17, 0x7a, 0x9c, 0xb4, 0x10, 0xff, 0x61, 0xf2, 0x00, 0x15, 0xad]

/-- R112 (with R192): a command that ends at DONE leaves the SHA-256 digest of `buffer[0..SIZE)` in D, in both
modes and whatever the hints of a checked command were. -/
def Obligations.DoneCommandHoldsTheDigest : Prop :=
  ∀ (s t : State) (k : Nat), JustAccepted s → Sys2Proof.core.run k s = .next t → t.blockState = .done →
    t.digest = sha256 (message s)

/-- R115: with deterministic hints an unchecked command, and a checked one whose slack is zero, reaches DONE in
LEN(N) steps. -/
def Obligations.CommandReachesDone : Prop :=
  ∀ s : State, JustAccepted s → (s.hintSource = .builder ∨ s.checked = false) →
    (s.checked = true → SlackZero s) →
      ∃ t, Sys2Proof.core.run (uprog s.bufferSize).length s = .next t ∧ t.blockState = .done ∧
        t.upc.toNat = (uprog s.bufferSize).length

/-- R103, R116: a checked command that ends at DONE has tested every slack byte, whatever its hints. -/
def Obligations.CheckedDoneMeansZeroSlack : Prop :=
  ∀ (s t : State) (k : Nat), JustAccepted s → s.checked = true →
    Sys2Proof.core.run k s = .next t → t.blockState = .done → SlackZero s

/-- R117: with HINT_SOURCE = builder a checked command aborts at the VBLK of the window that holds the lowest
non-zero slack byte, with SLACK_NONZERO and that byte's index, and for no other reason. -/
def Obligations.NonzeroSlackAbortsACheckedCommand : Prop :=
  ∀ s : State, JustAccepted s → s.hintSource = .builder → s.checked = true →
    (∀ k : Nat, s.size.toNat ≤ k → k < s.bufferSize → memRead s k ≠ some 0 →
      (∀ k' : Nat, s.size.toNat ≤ k' → k' < k → memRead s k' = some 0) →
        ∃ (m : Nat) (t : State), Sys2Proof.core.run m s = .next t ∧ t.blockState = .aborted ∧
          t.cause = .slackNonzero ∧ t.info.toNat = k ∧ t.upc.toNat = 5 * (k / 64) + 2) ∧
    (∀ (m : Nat) (t : State), Sys2Proof.core.run m s = .next t → t.blockState = .aborted →
      t.cause = .slackNonzero ∧ ¬ SlackZero s)

/-- R114, R115, R118: two commands on the same message, of any capacities and in any modes, that end at DONE
leave the same digest. -/
def Obligations.DigestDependsOnTheMessageAlone : Prop :=
  ∀ (s s' t t' : State) (k k' : Nat), JustAccepted s → JustAccepted s' → message s = message s' →
    Sys2Proof.core.run k s = .next t → t.blockState = .done →
    Sys2Proof.core.run k' s' = .next t' → t'.blockState = .done → t.digest = t'.digest

/-- R41, R283: what the datapath registers held before a command reaches neither its STATUS, INFO and UPC at any
step nor, once DONE, its digest. -/
def Obligations.EarlierCommandsLeaveNoTrace : Prop :=
  ∀ (s t : State) (k : Nat) (h : Vector Word 8) (blk hblk last : Vector Byte 64) (w : Vector Word 16)
    (ptr hptr vptr : BitVec 7) (digest : Vector Byte 32),
    JustAccepted s → Sys2Proof.core.run k s = .next t →
      ∃ t', Sys2Proof.core.run k { s with
          h := h, blk := blk, hblk := hblk, last := last, w := w, ptr := ptr, hptr := hptr, vptr := vptr,
          digest := digest } = .next t' ∧
        statusWord t' = statusWord t ∧ t'.info = t.info ∧ t'.upc = t.upc ∧
        (t.blockState = .done → t'.digest = t.digest)
end

