-- ==== Sys2Proof/Laws/State.lean ====
section
/-! SUPPORT. What every register write of Machine/Ops.lean leaves in every field. -/

namespace Sys2Proof.Machine

/-! `writeHash` -/

@[simp] theorem State.writeHash_capacity (s : State) (v : Vector Word 8) : (s.writeHash v).capacity = s.capacity := rfl

@[simp] theorem State.writeHash_hintSource (s : State) (v : Vector Word 8) : (s.writeHash v).hintSource = s.hintSource := rfl

@[simp] theorem State.writeHash_blockState (s : State) (v : Vector Word 8) : (s.writeHash v).blockState = s.blockState := rfl

@[simp] theorem State.writeHash_ovr (s : State) (v : Vector Word 8) : (s.writeHash v).ovr = s.ovr := rfl

@[simp] theorem State.writeHash_cause (s : State) (v : Vector Word 8) : (s.writeHash v).cause = s.cause := rfl

@[simp] theorem State.writeHash_mode (s : State) (v : Vector Word 8) : (s.writeHash v).mode = s.mode := rfl

@[simp] theorem State.writeHash_info (s : State) (v : Vector Word 8) : (s.writeHash v).info = s.info := rfl

@[simp] theorem State.writeHash_msgSize (s : State) (v : Vector Word 8) : (s.writeHash v).msgSize = s.msgSize := rfl

@[simp] theorem State.writeHash_size (s : State) (v : Vector Word 8) : (s.writeHash v).size = s.size := rfl

@[simp] theorem State.writeHash_checked (s : State) (v : Vector Word 8) : (s.writeHash v).checked = s.checked := rfl

@[simp] theorem State.writeHash_upc (s : State) (v : Vector Word 8) : (s.writeHash v).upc = s.upc := rfl

@[simp] theorem State.writeHash_h (s : State) (v : Vector Word 8) : (s.writeHash v).h = v := rfl

@[simp] theorem State.writeHash_blk (s : State) (v : Vector Word 8) : (s.writeHash v).blk = s.blk := rfl

@[simp] theorem State.writeHash_ptr (s : State) (v : Vector Word 8) : (s.writeHash v).ptr = s.ptr := rfl

@[simp] theorem State.writeHash_w (s : State) (v : Vector Word 8) : (s.writeHash v).w = s.w := rfl

@[simp] theorem State.writeHash_hblk (s : State) (v : Vector Word 8) : (s.writeHash v).hblk = s.hblk := rfl

@[simp] theorem State.writeHash_hptr (s : State) (v : Vector Word 8) : (s.writeHash v).hptr = s.hptr := rfl

@[simp] theorem State.writeHash_vptr (s : State) (v : Vector Word 8) : (s.writeHash v).vptr = s.vptr := rfl

@[simp] theorem State.writeHash_last (s : State) (v : Vector Word 8) : (s.writeHash v).last = s.last := rfl

@[simp] theorem State.writeHash_digest (s : State) (v : Vector Word 8) : (s.writeHash v).digest = s.digest := rfl

@[simp] theorem State.writeHash_buffer (s : State) (v : Vector Word 8) : (s.writeHash v).buffer = s.buffer := rfl

@[simp] theorem State.writeHash_hostActions (s : State) (v : Vector Word 8) : (s.writeHash v).hostActions = s.hostActions := rfl

@[simp] theorem State.writeHash_freeCount (s : State) (v : Vector Word 8) : (s.writeHash v).freeCount = s.freeCount := rfl

/-! `writeBlock` -/

@[simp] theorem State.writeBlock_capacity (s : State) (v : Vector Byte 64) : (s.writeBlock v).capacity = s.capacity := rfl

@[simp] theorem State.writeBlock_hintSource (s : State) (v : Vector Byte 64) : (s.writeBlock v).hintSource = s.hintSource := rfl

@[simp] theorem State.writeBlock_blockState (s : State) (v : Vector Byte 64) : (s.writeBlock v).blockState = s.blockState := rfl

@[simp] theorem State.writeBlock_ovr (s : State) (v : Vector Byte 64) : (s.writeBlock v).ovr = s.ovr := rfl

@[simp] theorem State.writeBlock_cause (s : State) (v : Vector Byte 64) : (s.writeBlock v).cause = s.cause := rfl

@[simp] theorem State.writeBlock_mode (s : State) (v : Vector Byte 64) : (s.writeBlock v).mode = s.mode := rfl

@[simp] theorem State.writeBlock_info (s : State) (v : Vector Byte 64) : (s.writeBlock v).info = s.info := rfl

@[simp] theorem State.writeBlock_msgSize (s : State) (v : Vector Byte 64) : (s.writeBlock v).msgSize = s.msgSize := rfl

@[simp] theorem State.writeBlock_size (s : State) (v : Vector Byte 64) : (s.writeBlock v).size = s.size := rfl

@[simp] theorem State.writeBlock_checked (s : State) (v : Vector Byte 64) : (s.writeBlock v).checked = s.checked := rfl

@[simp] theorem State.writeBlock_upc (s : State) (v : Vector Byte 64) : (s.writeBlock v).upc = s.upc := rfl

@[simp] theorem State.writeBlock_h (s : State) (v : Vector Byte 64) : (s.writeBlock v).h = s.h := rfl

@[simp] theorem State.writeBlock_blk (s : State) (v : Vector Byte 64) : (s.writeBlock v).blk = v := rfl

@[simp] theorem State.writeBlock_ptr (s : State) (v : Vector Byte 64) : (s.writeBlock v).ptr = s.ptr := rfl

@[simp] theorem State.writeBlock_w (s : State) (v : Vector Byte 64) : (s.writeBlock v).w = s.w := rfl

@[simp] theorem State.writeBlock_hblk (s : State) (v : Vector Byte 64) : (s.writeBlock v).hblk = s.hblk := rfl

@[simp] theorem State.writeBlock_hptr (s : State) (v : Vector Byte 64) : (s.writeBlock v).hptr = s.hptr := rfl

@[simp] theorem State.writeBlock_vptr (s : State) (v : Vector Byte 64) : (s.writeBlock v).vptr = s.vptr := rfl

@[simp] theorem State.writeBlock_last (s : State) (v : Vector Byte 64) : (s.writeBlock v).last = s.last := rfl

@[simp] theorem State.writeBlock_digest (s : State) (v : Vector Byte 64) : (s.writeBlock v).digest = s.digest := rfl

@[simp] theorem State.writeBlock_buffer (s : State) (v : Vector Byte 64) : (s.writeBlock v).buffer = s.buffer := rfl

@[simp] theorem State.writeBlock_hostActions (s : State) (v : Vector Byte 64) : (s.writeBlock v).hostActions = s.hostActions := rfl

@[simp] theorem State.writeBlock_freeCount (s : State) (v : Vector Byte 64) : (s.writeBlock v).freeCount = s.freeCount := rfl

/-! `writePointer` -/

@[simp] theorem State.writePointer_capacity (s : State) (v : BitVec 7) : (s.writePointer v).capacity = s.capacity := rfl

@[simp] theorem State.writePointer_hintSource (s : State) (v : BitVec 7) : (s.writePointer v).hintSource = s.hintSource := rfl

@[simp] theorem State.writePointer_blockState (s : State) (v : BitVec 7) : (s.writePointer v).blockState = s.blockState := rfl

@[simp] theorem State.writePointer_ovr (s : State) (v : BitVec 7) : (s.writePointer v).ovr = s.ovr := rfl

@[simp] theorem State.writePointer_cause (s : State) (v : BitVec 7) : (s.writePointer v).cause = s.cause := rfl

@[simp] theorem State.writePointer_mode (s : State) (v : BitVec 7) : (s.writePointer v).mode = s.mode := rfl

@[simp] theorem State.writePointer_info (s : State) (v : BitVec 7) : (s.writePointer v).info = s.info := rfl

@[simp] theorem State.writePointer_msgSize (s : State) (v : BitVec 7) : (s.writePointer v).msgSize = s.msgSize := rfl

@[simp] theorem State.writePointer_size (s : State) (v : BitVec 7) : (s.writePointer v).size = s.size := rfl

@[simp] theorem State.writePointer_checked (s : State) (v : BitVec 7) : (s.writePointer v).checked = s.checked := rfl

@[simp] theorem State.writePointer_upc (s : State) (v : BitVec 7) : (s.writePointer v).upc = s.upc := rfl

@[simp] theorem State.writePointer_h (s : State) (v : BitVec 7) : (s.writePointer v).h = s.h := rfl

@[simp] theorem State.writePointer_blk (s : State) (v : BitVec 7) : (s.writePointer v).blk = s.blk := rfl

@[simp] theorem State.writePointer_ptr (s : State) (v : BitVec 7) : (s.writePointer v).ptr = v := rfl

@[simp] theorem State.writePointer_w (s : State) (v : BitVec 7) : (s.writePointer v).w = s.w := rfl

@[simp] theorem State.writePointer_hblk (s : State) (v : BitVec 7) : (s.writePointer v).hblk = s.hblk := rfl

@[simp] theorem State.writePointer_hptr (s : State) (v : BitVec 7) : (s.writePointer v).hptr = s.hptr := rfl

@[simp] theorem State.writePointer_vptr (s : State) (v : BitVec 7) : (s.writePointer v).vptr = s.vptr := rfl

@[simp] theorem State.writePointer_last (s : State) (v : BitVec 7) : (s.writePointer v).last = s.last := rfl

@[simp] theorem State.writePointer_digest (s : State) (v : BitVec 7) : (s.writePointer v).digest = s.digest := rfl

@[simp] theorem State.writePointer_buffer (s : State) (v : BitVec 7) : (s.writePointer v).buffer = s.buffer := rfl

@[simp] theorem State.writePointer_hostActions (s : State) (v : BitVec 7) : (s.writePointer v).hostActions = s.hostActions := rfl

@[simp] theorem State.writePointer_freeCount (s : State) (v : BitVec 7) : (s.writePointer v).freeCount = s.freeCount := rfl

/-! `writeWords` -/

@[simp] theorem State.writeWords_capacity (s : State) (v : Vector Word 16) : (s.writeWords v).capacity = s.capacity := rfl

@[simp] theorem State.writeWords_hintSource (s : State) (v : Vector Word 16) : (s.writeWords v).hintSource = s.hintSource := rfl

@[simp] theorem State.writeWords_blockState (s : State) (v : Vector Word 16) : (s.writeWords v).blockState = s.blockState := rfl

@[simp] theorem State.writeWords_ovr (s : State) (v : Vector Word 16) : (s.writeWords v).ovr = s.ovr := rfl

@[simp] theorem State.writeWords_cause (s : State) (v : Vector Word 16) : (s.writeWords v).cause = s.cause := rfl

@[simp] theorem State.writeWords_mode (s : State) (v : Vector Word 16) : (s.writeWords v).mode = s.mode := rfl

@[simp] theorem State.writeWords_info (s : State) (v : Vector Word 16) : (s.writeWords v).info = s.info := rfl

@[simp] theorem State.writeWords_msgSize (s : State) (v : Vector Word 16) : (s.writeWords v).msgSize = s.msgSize := rfl

@[simp] theorem State.writeWords_size (s : State) (v : Vector Word 16) : (s.writeWords v).size = s.size := rfl

@[simp] theorem State.writeWords_checked (s : State) (v : Vector Word 16) : (s.writeWords v).checked = s.checked := rfl

@[simp] theorem State.writeWords_upc (s : State) (v : Vector Word 16) : (s.writeWords v).upc = s.upc := rfl

@[simp] theorem State.writeWords_h (s : State) (v : Vector Word 16) : (s.writeWords v).h = s.h := rfl

@[simp] theorem State.writeWords_blk (s : State) (v : Vector Word 16) : (s.writeWords v).blk = s.blk := rfl

@[simp] theorem State.writeWords_ptr (s : State) (v : Vector Word 16) : (s.writeWords v).ptr = s.ptr := rfl

@[simp] theorem State.writeWords_w (s : State) (v : Vector Word 16) : (s.writeWords v).w = v := rfl

@[simp] theorem State.writeWords_hblk (s : State) (v : Vector Word 16) : (s.writeWords v).hblk = s.hblk := rfl

@[simp] theorem State.writeWords_hptr (s : State) (v : Vector Word 16) : (s.writeWords v).hptr = s.hptr := rfl

@[simp] theorem State.writeWords_vptr (s : State) (v : Vector Word 16) : (s.writeWords v).vptr = s.vptr := rfl

@[simp] theorem State.writeWords_last (s : State) (v : Vector Word 16) : (s.writeWords v).last = s.last := rfl

@[simp] theorem State.writeWords_digest (s : State) (v : Vector Word 16) : (s.writeWords v).digest = s.digest := rfl

@[simp] theorem State.writeWords_buffer (s : State) (v : Vector Word 16) : (s.writeWords v).buffer = s.buffer := rfl

@[simp] theorem State.writeWords_hostActions (s : State) (v : Vector Word 16) : (s.writeWords v).hostActions = s.hostActions := rfl

@[simp] theorem State.writeWords_freeCount (s : State) (v : Vector Word 16) : (s.writeWords v).freeCount = s.freeCount := rfl

/-! `writeHint` -/

@[simp] theorem State.writeHint_capacity (s : State) (b : Vector Byte 64) (p : BitVec 7) : (s.writeHint b p).capacity = s.capacity := rfl

@[simp] theorem State.writeHint_hintSource (s : State) (b : Vector Byte 64) (p : BitVec 7) : (s.writeHint b p).hintSource = s.hintSource := rfl

@[simp] theorem State.writeHint_blockState (s : State) (b : Vector Byte 64) (p : BitVec 7) : (s.writeHint b p).blockState = s.blockState := rfl

@[simp] theorem State.writeHint_ovr (s : State) (b : Vector Byte 64) (p : BitVec 7) : (s.writeHint b p).ovr = s.ovr := rfl

@[simp] theorem State.writeHint_cause (s : State) (b : Vector Byte 64) (p : BitVec 7) : (s.writeHint b p).cause = s.cause := rfl

@[simp] theorem State.writeHint_mode (s : State) (b : Vector Byte 64) (p : BitVec 7) : (s.writeHint b p).mode = s.mode := rfl

@[simp] theorem State.writeHint_info (s : State) (b : Vector Byte 64) (p : BitVec 7) : (s.writeHint b p).info = s.info := rfl

@[simp] theorem State.writeHint_msgSize (s : State) (b : Vector Byte 64) (p : BitVec 7) : (s.writeHint b p).msgSize = s.msgSize := rfl

@[simp] theorem State.writeHint_size (s : State) (b : Vector Byte 64) (p : BitVec 7) : (s.writeHint b p).size = s.size := rfl

@[simp] theorem State.writeHint_checked (s : State) (b : Vector Byte 64) (p : BitVec 7) : (s.writeHint b p).checked = s.checked := rfl

@[simp] theorem State.writeHint_upc (s : State) (b : Vector Byte 64) (p : BitVec 7) : (s.writeHint b p).upc = s.upc := rfl

@[simp] theorem State.writeHint_h (s : State) (b : Vector Byte 64) (p : BitVec 7) : (s.writeHint b p).h = s.h := rfl

@[simp] theorem State.writeHint_blk (s : State) (b : Vector Byte 64) (p : BitVec 7) : (s.writeHint b p).blk = s.blk := rfl

@[simp] theorem State.writeHint_ptr (s : State) (b : Vector Byte 64) (p : BitVec 7) : (s.writeHint b p).ptr = s.ptr := rfl

@[simp] theorem State.writeHint_w (s : State) (b : Vector Byte 64) (p : BitVec 7) : (s.writeHint b p).w = s.w := rfl

@[simp] theorem State.writeHint_hblk (s : State) (b : Vector Byte 64) (p : BitVec 7) : (s.writeHint b p).hblk = b := rfl

@[simp] theorem State.writeHint_hptr (s : State) (b : Vector Byte 64) (p : BitVec 7) : (s.writeHint b p).hptr = p := rfl

@[simp] theorem State.writeHint_vptr (s : State) (b : Vector Byte 64) (p : BitVec 7) : (s.writeHint b p).vptr = s.vptr := rfl

@[simp] theorem State.writeHint_last (s : State) (b : Vector Byte 64) (p : BitVec 7) : (s.writeHint b p).last = s.last := rfl

@[simp] theorem State.writeHint_digest (s : State) (b : Vector Byte 64) (p : BitVec 7) : (s.writeHint b p).digest = s.digest := rfl

@[simp] theorem State.writeHint_buffer (s : State) (b : Vector Byte 64) (p : BitVec 7) : (s.writeHint b p).buffer = s.buffer := rfl

@[simp] theorem State.writeHint_hostActions (s : State) (b : Vector Byte 64) (p : BitVec 7) : (s.writeHint b p).hostActions = s.hostActions := rfl

@[simp] theorem State.writeHint_freeCount (s : State) (b : Vector Byte 64) (p : BitVec 7) : (s.writeHint b p).freeCount = s.freeCount := rfl

/-! `writeVerified` -/

@[simp] theorem State.writeVerified_capacity (s : State) (v : BitVec 7) : (s.writeVerified v).capacity = s.capacity := rfl

@[simp] theorem State.writeVerified_hintSource (s : State) (v : BitVec 7) : (s.writeVerified v).hintSource = s.hintSource := rfl

@[simp] theorem State.writeVerified_blockState (s : State) (v : BitVec 7) : (s.writeVerified v).blockState = s.blockState := rfl

@[simp] theorem State.writeVerified_ovr (s : State) (v : BitVec 7) : (s.writeVerified v).ovr = s.ovr := rfl

@[simp] theorem State.writeVerified_cause (s : State) (v : BitVec 7) : (s.writeVerified v).cause = s.cause := rfl

@[simp] theorem State.writeVerified_mode (s : State) (v : BitVec 7) : (s.writeVerified v).mode = s.mode := rfl

@[simp] theorem State.writeVerified_info (s : State) (v : BitVec 7) : (s.writeVerified v).info = s.info := rfl

@[simp] theorem State.writeVerified_msgSize (s : State) (v : BitVec 7) : (s.writeVerified v).msgSize = s.msgSize := rfl

@[simp] theorem State.writeVerified_size (s : State) (v : BitVec 7) : (s.writeVerified v).size = s.size := rfl

@[simp] theorem State.writeVerified_checked (s : State) (v : BitVec 7) : (s.writeVerified v).checked = s.checked := rfl

@[simp] theorem State.writeVerified_upc (s : State) (v : BitVec 7) : (s.writeVerified v).upc = s.upc := rfl

@[simp] theorem State.writeVerified_h (s : State) (v : BitVec 7) : (s.writeVerified v).h = s.h := rfl

@[simp] theorem State.writeVerified_blk (s : State) (v : BitVec 7) : (s.writeVerified v).blk = s.blk := rfl

@[simp] theorem State.writeVerified_ptr (s : State) (v : BitVec 7) : (s.writeVerified v).ptr = s.ptr := rfl

@[simp] theorem State.writeVerified_w (s : State) (v : BitVec 7) : (s.writeVerified v).w = s.w := rfl

@[simp] theorem State.writeVerified_hblk (s : State) (v : BitVec 7) : (s.writeVerified v).hblk = s.hblk := rfl

@[simp] theorem State.writeVerified_hptr (s : State) (v : BitVec 7) : (s.writeVerified v).hptr = s.hptr := rfl

@[simp] theorem State.writeVerified_vptr (s : State) (v : BitVec 7) : (s.writeVerified v).vptr = v := rfl

@[simp] theorem State.writeVerified_last (s : State) (v : BitVec 7) : (s.writeVerified v).last = s.last := rfl

@[simp] theorem State.writeVerified_digest (s : State) (v : BitVec 7) : (s.writeVerified v).digest = s.digest := rfl

@[simp] theorem State.writeVerified_buffer (s : State) (v : BitVec 7) : (s.writeVerified v).buffer = s.buffer := rfl

@[simp] theorem State.writeVerified_hostActions (s : State) (v : BitVec 7) : (s.writeVerified v).hostActions = s.hostActions := rfl

@[simp] theorem State.writeVerified_freeCount (s : State) (v : BitVec 7) : (s.writeVerified v).freeCount = s.freeCount := rfl

/-! `writeLast` -/

@[simp] theorem State.writeLast_capacity (s : State) (v : Vector Byte 64) : (s.writeLast v).capacity = s.capacity := rfl

@[simp] theorem State.writeLast_hintSource (s : State) (v : Vector Byte 64) : (s.writeLast v).hintSource = s.hintSource := rfl

@[simp] theorem State.writeLast_blockState (s : State) (v : Vector Byte 64) : (s.writeLast v).blockState = s.blockState := rfl

@[simp] theorem State.writeLast_ovr (s : State) (v : Vector Byte 64) : (s.writeLast v).ovr = s.ovr := rfl

@[simp] theorem State.writeLast_cause (s : State) (v : Vector Byte 64) : (s.writeLast v).cause = s.cause := rfl

@[simp] theorem State.writeLast_mode (s : State) (v : Vector Byte 64) : (s.writeLast v).mode = s.mode := rfl

@[simp] theorem State.writeLast_info (s : State) (v : Vector Byte 64) : (s.writeLast v).info = s.info := rfl

@[simp] theorem State.writeLast_msgSize (s : State) (v : Vector Byte 64) : (s.writeLast v).msgSize = s.msgSize := rfl

@[simp] theorem State.writeLast_size (s : State) (v : Vector Byte 64) : (s.writeLast v).size = s.size := rfl

@[simp] theorem State.writeLast_checked (s : State) (v : Vector Byte 64) : (s.writeLast v).checked = s.checked := rfl

@[simp] theorem State.writeLast_upc (s : State) (v : Vector Byte 64) : (s.writeLast v).upc = s.upc := rfl

@[simp] theorem State.writeLast_h (s : State) (v : Vector Byte 64) : (s.writeLast v).h = s.h := rfl

@[simp] theorem State.writeLast_blk (s : State) (v : Vector Byte 64) : (s.writeLast v).blk = s.blk := rfl

@[simp] theorem State.writeLast_ptr (s : State) (v : Vector Byte 64) : (s.writeLast v).ptr = s.ptr := rfl

@[simp] theorem State.writeLast_w (s : State) (v : Vector Byte 64) : (s.writeLast v).w = s.w := rfl

@[simp] theorem State.writeLast_hblk (s : State) (v : Vector Byte 64) : (s.writeLast v).hblk = s.hblk := rfl

@[simp] theorem State.writeLast_hptr (s : State) (v : Vector Byte 64) : (s.writeLast v).hptr = s.hptr := rfl

@[simp] theorem State.writeLast_vptr (s : State) (v : Vector Byte 64) : (s.writeLast v).vptr = s.vptr := rfl

@[simp] theorem State.writeLast_last (s : State) (v : Vector Byte 64) : (s.writeLast v).last = v := rfl

@[simp] theorem State.writeLast_digest (s : State) (v : Vector Byte 64) : (s.writeLast v).digest = s.digest := rfl

@[simp] theorem State.writeLast_buffer (s : State) (v : Vector Byte 64) : (s.writeLast v).buffer = s.buffer := rfl

@[simp] theorem State.writeLast_hostActions (s : State) (v : Vector Byte 64) : (s.writeLast v).hostActions = s.hostActions := rfl

@[simp] theorem State.writeLast_freeCount (s : State) (v : Vector Byte 64) : (s.writeLast v).freeCount = s.freeCount := rfl

/-! `writeDigest` -/

@[simp] theorem State.writeDigest_capacity (s : State) (v : Vector Byte 32) : (s.writeDigest v).capacity = s.capacity := rfl

@[simp] theorem State.writeDigest_hintSource (s : State) (v : Vector Byte 32) : (s.writeDigest v).hintSource = s.hintSource := rfl

@[simp] theorem State.writeDigest_blockState (s : State) (v : Vector Byte 32) : (s.writeDigest v).blockState = .done := rfl

@[simp] theorem State.writeDigest_ovr (s : State) (v : Vector Byte 32) : (s.writeDigest v).ovr = s.ovr := rfl

@[simp] theorem State.writeDigest_cause (s : State) (v : Vector Byte 32) : (s.writeDigest v).cause = s.cause := rfl

@[simp] theorem State.writeDigest_mode (s : State) (v : Vector Byte 32) : (s.writeDigest v).mode = s.mode := rfl

@[simp] theorem State.writeDigest_info (s : State) (v : Vector Byte 32) : (s.writeDigest v).info = s.info := rfl

@[simp] theorem State.writeDigest_msgSize (s : State) (v : Vector Byte 32) : (s.writeDigest v).msgSize = s.msgSize := rfl

@[simp] theorem State.writeDigest_size (s : State) (v : Vector Byte 32) : (s.writeDigest v).size = s.size := rfl

@[simp] theorem State.writeDigest_checked (s : State) (v : Vector Byte 32) : (s.writeDigest v).checked = s.checked := rfl

@[simp] theorem State.writeDigest_upc (s : State) (v : Vector Byte 32) : (s.writeDigest v).upc = s.upc := rfl

@[simp] theorem State.writeDigest_h (s : State) (v : Vector Byte 32) : (s.writeDigest v).h = s.h := rfl

@[simp] theorem State.writeDigest_blk (s : State) (v : Vector Byte 32) : (s.writeDigest v).blk = s.blk := rfl

@[simp] theorem State.writeDigest_ptr (s : State) (v : Vector Byte 32) : (s.writeDigest v).ptr = s.ptr := rfl

@[simp] theorem State.writeDigest_w (s : State) (v : Vector Byte 32) : (s.writeDigest v).w = s.w := rfl

@[simp] theorem State.writeDigest_hblk (s : State) (v : Vector Byte 32) : (s.writeDigest v).hblk = s.hblk := rfl

@[simp] theorem State.writeDigest_hptr (s : State) (v : Vector Byte 32) : (s.writeDigest v).hptr = s.hptr := rfl

@[simp] theorem State.writeDigest_vptr (s : State) (v : Vector Byte 32) : (s.writeDigest v).vptr = s.vptr := rfl

@[simp] theorem State.writeDigest_last (s : State) (v : Vector Byte 32) : (s.writeDigest v).last = s.last := rfl

@[simp] theorem State.writeDigest_digest (s : State) (v : Vector Byte 32) : (s.writeDigest v).digest = v := rfl

@[simp] theorem State.writeDigest_buffer (s : State) (v : Vector Byte 32) : (s.writeDigest v).buffer = s.buffer := rfl

@[simp] theorem State.writeDigest_hostActions (s : State) (v : Vector Byte 32) : (s.writeDigest v).hostActions = s.hostActions := rfl

@[simp] theorem State.writeDigest_freeCount (s : State) (v : Vector Byte 32) : (s.writeDigest v).freeCount = s.freeCount := rfl

/-! `writeBuffer` -/

@[simp] theorem State.writeBuffer_capacity (s : State) (k : Nat) (b : Byte) : (s.writeBuffer k b).capacity = s.capacity := rfl

@[simp] theorem State.writeBuffer_hintSource (s : State) (k : Nat) (b : Byte) : (s.writeBuffer k b).hintSource = s.hintSource := rfl

@[simp] theorem State.writeBuffer_blockState (s : State) (k : Nat) (b : Byte) : (s.writeBuffer k b).blockState = s.blockState := rfl

@[simp] theorem State.writeBuffer_ovr (s : State) (k : Nat) (b : Byte) : (s.writeBuffer k b).ovr = s.ovr := rfl

@[simp] theorem State.writeBuffer_cause (s : State) (k : Nat) (b : Byte) : (s.writeBuffer k b).cause = s.cause := rfl

@[simp] theorem State.writeBuffer_mode (s : State) (k : Nat) (b : Byte) : (s.writeBuffer k b).mode = s.mode := rfl

@[simp] theorem State.writeBuffer_info (s : State) (k : Nat) (b : Byte) : (s.writeBuffer k b).info = s.info := rfl

@[simp] theorem State.writeBuffer_msgSize (s : State) (k : Nat) (b : Byte) : (s.writeBuffer k b).msgSize = s.msgSize := rfl

@[simp] theorem State.writeBuffer_size (s : State) (k : Nat) (b : Byte) : (s.writeBuffer k b).size = s.size := rfl

@[simp] theorem State.writeBuffer_checked (s : State) (k : Nat) (b : Byte) : (s.writeBuffer k b).checked = s.checked := rfl

@[simp] theorem State.writeBuffer_upc (s : State) (k : Nat) (b : Byte) : (s.writeBuffer k b).upc = s.upc := rfl

@[simp] theorem State.writeBuffer_h (s : State) (k : Nat) (b : Byte) : (s.writeBuffer k b).h = s.h := rfl

@[simp] theorem State.writeBuffer_blk (s : State) (k : Nat) (b : Byte) : (s.writeBuffer k b).blk = s.blk := rfl

@[simp] theorem State.writeBuffer_ptr (s : State) (k : Nat) (b : Byte) : (s.writeBuffer k b).ptr = s.ptr := rfl

@[simp] theorem State.writeBuffer_w (s : State) (k : Nat) (b : Byte) : (s.writeBuffer k b).w = s.w := rfl

@[simp] theorem State.writeBuffer_hblk (s : State) (k : Nat) (b : Byte) : (s.writeBuffer k b).hblk = s.hblk := rfl

@[simp] theorem State.writeBuffer_hptr (s : State) (k : Nat) (b : Byte) : (s.writeBuffer k b).hptr = s.hptr := rfl

@[simp] theorem State.writeBuffer_vptr (s : State) (k : Nat) (b : Byte) : (s.writeBuffer k b).vptr = s.vptr := rfl

@[simp] theorem State.writeBuffer_last (s : State) (k : Nat) (b : Byte) : (s.writeBuffer k b).last = s.last := rfl

@[simp] theorem State.writeBuffer_digest (s : State) (k : Nat) (b : Byte) : (s.writeBuffer k b).digest = s.digest := rfl

@[simp] theorem State.writeBuffer_buffer (s : State) (k : Nat) (b : Byte) : (s.writeBuffer k b).buffer = Memory.store s.buffer k b := rfl

@[simp] theorem State.writeBuffer_hostActions (s : State) (k : Nat) (b : Byte) : (s.writeBuffer k b).hostActions = s.hostActions := rfl

@[simp] theorem State.writeBuffer_freeCount (s : State) (k : Nat) (b : Byte) : (s.writeBuffer k b).freeCount = s.freeCount := rfl

/-! `driveMsgSize` -/

@[simp] theorem State.driveMsgSize_capacity (s : State) (v : DWord) : (s.driveMsgSize v).capacity = s.capacity := rfl

@[simp] theorem State.driveMsgSize_hintSource (s : State) (v : DWord) : (s.driveMsgSize v).hintSource = s.hintSource := rfl

@[simp] theorem State.driveMsgSize_blockState (s : State) (v : DWord) : (s.driveMsgSize v).blockState = s.blockState := rfl

@[simp] theorem State.driveMsgSize_ovr (s : State) (v : DWord) : (s.driveMsgSize v).ovr = s.ovr := rfl

@[simp] theorem State.driveMsgSize_cause (s : State) (v : DWord) : (s.driveMsgSize v).cause = s.cause := rfl

@[simp] theorem State.driveMsgSize_mode (s : State) (v : DWord) : (s.driveMsgSize v).mode = s.mode := rfl

@[simp] theorem State.driveMsgSize_info (s : State) (v : DWord) : (s.driveMsgSize v).info = s.info := rfl

@[simp] theorem State.driveMsgSize_msgSize (s : State) (v : DWord) : (s.driveMsgSize v).msgSize = v := rfl

@[simp] theorem State.driveMsgSize_size (s : State) (v : DWord) : (s.driveMsgSize v).size = s.size := rfl

@[simp] theorem State.driveMsgSize_checked (s : State) (v : DWord) : (s.driveMsgSize v).checked = s.checked := rfl

@[simp] theorem State.driveMsgSize_upc (s : State) (v : DWord) : (s.driveMsgSize v).upc = s.upc := rfl

@[simp] theorem State.driveMsgSize_h (s : State) (v : DWord) : (s.driveMsgSize v).h = s.h := rfl

@[simp] theorem State.driveMsgSize_blk (s : State) (v : DWord) : (s.driveMsgSize v).blk = s.blk := rfl

@[simp] theorem State.driveMsgSize_ptr (s : State) (v : DWord) : (s.driveMsgSize v).ptr = s.ptr := rfl

@[simp] theorem State.driveMsgSize_w (s : State) (v : DWord) : (s.driveMsgSize v).w = s.w := rfl

@[simp] theorem State.driveMsgSize_hblk (s : State) (v : DWord) : (s.driveMsgSize v).hblk = s.hblk := rfl

@[simp] theorem State.driveMsgSize_hptr (s : State) (v : DWord) : (s.driveMsgSize v).hptr = s.hptr := rfl

@[simp] theorem State.driveMsgSize_vptr (s : State) (v : DWord) : (s.driveMsgSize v).vptr = s.vptr := rfl

@[simp] theorem State.driveMsgSize_last (s : State) (v : DWord) : (s.driveMsgSize v).last = s.last := rfl

@[simp] theorem State.driveMsgSize_digest (s : State) (v : DWord) : (s.driveMsgSize v).digest = s.digest := rfl

@[simp] theorem State.driveMsgSize_buffer (s : State) (v : DWord) : (s.driveMsgSize v).buffer = s.buffer := rfl

@[simp] theorem State.driveMsgSize_hostActions (s : State) (v : DWord) : (s.driveMsgSize v).hostActions = s.hostActions := rfl

@[simp] theorem State.driveMsgSize_freeCount (s : State) (v : DWord) : (s.driveMsgSize v).freeCount = s.freeCount := rfl

/-! `withActions` -/

@[simp] theorem State.withActions_capacity (s : State) (as : List HostAction) : (s.withActions as).capacity = s.capacity := rfl

@[simp] theorem State.withActions_hintSource (s : State) (as : List HostAction) : (s.withActions as).hintSource = s.hintSource := rfl

@[simp] theorem State.withActions_blockState (s : State) (as : List HostAction) : (s.withActions as).blockState = s.blockState := rfl

@[simp] theorem State.withActions_ovr (s : State) (as : List HostAction) : (s.withActions as).ovr = s.ovr := rfl

@[simp] theorem State.withActions_cause (s : State) (as : List HostAction) : (s.withActions as).cause = s.cause := rfl

@[simp] theorem State.withActions_mode (s : State) (as : List HostAction) : (s.withActions as).mode = s.mode := rfl

@[simp] theorem State.withActions_info (s : State) (as : List HostAction) : (s.withActions as).info = s.info := rfl

@[simp] theorem State.withActions_msgSize (s : State) (as : List HostAction) : (s.withActions as).msgSize = s.msgSize := rfl

@[simp] theorem State.withActions_size (s : State) (as : List HostAction) : (s.withActions as).size = s.size := rfl

@[simp] theorem State.withActions_checked (s : State) (as : List HostAction) : (s.withActions as).checked = s.checked := rfl

@[simp] theorem State.withActions_upc (s : State) (as : List HostAction) : (s.withActions as).upc = s.upc := rfl

@[simp] theorem State.withActions_h (s : State) (as : List HostAction) : (s.withActions as).h = s.h := rfl

@[simp] theorem State.withActions_blk (s : State) (as : List HostAction) : (s.withActions as).blk = s.blk := rfl

@[simp] theorem State.withActions_ptr (s : State) (as : List HostAction) : (s.withActions as).ptr = s.ptr := rfl

@[simp] theorem State.withActions_w (s : State) (as : List HostAction) : (s.withActions as).w = s.w := rfl

@[simp] theorem State.withActions_hblk (s : State) (as : List HostAction) : (s.withActions as).hblk = s.hblk := rfl

@[simp] theorem State.withActions_hptr (s : State) (as : List HostAction) : (s.withActions as).hptr = s.hptr := rfl

@[simp] theorem State.withActions_vptr (s : State) (as : List HostAction) : (s.withActions as).vptr = s.vptr := rfl

@[simp] theorem State.withActions_last (s : State) (as : List HostAction) : (s.withActions as).last = s.last := rfl

@[simp] theorem State.withActions_digest (s : State) (as : List HostAction) : (s.withActions as).digest = s.digest := rfl

@[simp] theorem State.withActions_buffer (s : State) (as : List HostAction) : (s.withActions as).buffer = s.buffer := rfl

@[simp] theorem State.withActions_hostActions (s : State) (as : List HostAction) : (s.withActions as).hostActions = as := rfl

@[simp] theorem State.withActions_freeCount (s : State) (as : List HostAction) : (s.withActions as).freeCount = s.freeCount := rfl

/-! `takeFree` -/

@[simp] theorem State.takeFree_capacity (s : State) : (s.takeFree).capacity = s.capacity := rfl

@[simp] theorem State.takeFree_hintSource (s : State) : (s.takeFree).hintSource = s.hintSource := rfl

@[simp] theorem State.takeFree_blockState (s : State) : (s.takeFree).blockState = s.blockState := rfl

@[simp] theorem State.takeFree_ovr (s : State) : (s.takeFree).ovr = s.ovr := rfl

@[simp] theorem State.takeFree_cause (s : State) : (s.takeFree).cause = s.cause := rfl

@[simp] theorem State.takeFree_mode (s : State) : (s.takeFree).mode = s.mode := rfl

@[simp] theorem State.takeFree_info (s : State) : (s.takeFree).info = s.info := rfl

@[simp] theorem State.takeFree_msgSize (s : State) : (s.takeFree).msgSize = s.msgSize := rfl

@[simp] theorem State.takeFree_size (s : State) : (s.takeFree).size = s.size := rfl

@[simp] theorem State.takeFree_checked (s : State) : (s.takeFree).checked = s.checked := rfl

@[simp] theorem State.takeFree_upc (s : State) : (s.takeFree).upc = s.upc := rfl

@[simp] theorem State.takeFree_h (s : State) : (s.takeFree).h = s.h := rfl

@[simp] theorem State.takeFree_blk (s : State) : (s.takeFree).blk = s.blk := rfl

@[simp] theorem State.takeFree_ptr (s : State) : (s.takeFree).ptr = s.ptr := rfl

@[simp] theorem State.takeFree_w (s : State) : (s.takeFree).w = s.w := rfl

@[simp] theorem State.takeFree_hblk (s : State) : (s.takeFree).hblk = s.hblk := rfl

@[simp] theorem State.takeFree_hptr (s : State) : (s.takeFree).hptr = s.hptr := rfl

@[simp] theorem State.takeFree_vptr (s : State) : (s.takeFree).vptr = s.vptr := rfl

@[simp] theorem State.takeFree_last (s : State) : (s.takeFree).last = s.last := rfl

@[simp] theorem State.takeFree_digest (s : State) : (s.takeFree).digest = s.digest := rfl

@[simp] theorem State.takeFree_buffer (s : State) : (s.takeFree).buffer = s.buffer := rfl

@[simp] theorem State.takeFree_hostActions (s : State) : (s.takeFree).hostActions = s.hostActions := rfl

@[simp] theorem State.takeFree_freeCount (s : State) : (s.takeFree).freeCount = s.freeCount + 1 := rfl

/-! `advance` -/

@[simp] theorem State.advance_capacity (s : State) : (s.advance).capacity = s.capacity := rfl

@[simp] theorem State.advance_hintSource (s : State) : (s.advance).hintSource = s.hintSource := rfl

@[simp] theorem State.advance_blockState (s : State) : (s.advance).blockState = s.blockState := rfl

@[simp] theorem State.advance_ovr (s : State) : (s.advance).ovr = s.ovr := rfl

@[simp] theorem State.advance_cause (s : State) : (s.advance).cause = s.cause := rfl

@[simp] theorem State.advance_mode (s : State) : (s.advance).mode = s.mode := rfl

@[simp] theorem State.advance_info (s : State) : (s.advance).info = s.info := rfl

@[simp] theorem State.advance_msgSize (s : State) : (s.advance).msgSize = s.msgSize := rfl

@[simp] theorem State.advance_size (s : State) : (s.advance).size = s.size := rfl

@[simp] theorem State.advance_checked (s : State) : (s.advance).checked = s.checked := rfl

@[simp] theorem State.advance_upc (s : State) : (s.advance).upc = s.upc + 1 := rfl

@[simp] theorem State.advance_h (s : State) : (s.advance).h = s.h := rfl

@[simp] theorem State.advance_blk (s : State) : (s.advance).blk = s.blk := rfl

@[simp] theorem State.advance_ptr (s : State) : (s.advance).ptr = s.ptr := rfl

@[simp] theorem State.advance_w (s : State) : (s.advance).w = s.w := rfl

@[simp] theorem State.advance_hblk (s : State) : (s.advance).hblk = s.hblk := rfl

@[simp] theorem State.advance_hptr (s : State) : (s.advance).hptr = s.hptr := rfl

@[simp] theorem State.advance_vptr (s : State) : (s.advance).vptr = s.vptr := rfl

@[simp] theorem State.advance_last (s : State) : (s.advance).last = s.last := rfl

@[simp] theorem State.advance_digest (s : State) : (s.advance).digest = s.digest := rfl

@[simp] theorem State.advance_buffer (s : State) : (s.advance).buffer = s.buffer := rfl

@[simp] theorem State.advance_hostActions (s : State) : (s.advance).hostActions = s.hostActions := rfl

@[simp] theorem State.advance_freeCount (s : State) : (s.advance).freeCount = s.freeCount := rfl

/-! `abort` -/

@[simp] theorem State.abort_capacity (s : State) (c : Cause) (n : Word) : (s.abort c n).capacity = s.capacity := rfl

@[simp] theorem State.abort_hintSource (s : State) (c : Cause) (n : Word) : (s.abort c n).hintSource = s.hintSource := rfl

@[simp] theorem State.abort_blockState (s : State) (c : Cause) (n : Word) : (s.abort c n).blockState = .aborted := rfl

@[simp] theorem State.abort_ovr (s : State) (c : Cause) (n : Word) : (s.abort c n).ovr = s.ovr := rfl

@[simp] theorem State.abort_cause (s : State) (c : Cause) (n : Word) : (s.abort c n).cause = c := rfl

@[simp] theorem State.abort_mode (s : State) (c : Cause) (n : Word) : (s.abort c n).mode = s.mode := rfl

@[simp] theorem State.abort_info (s : State) (c : Cause) (n : Word) : (s.abort c n).info = n := rfl

@[simp] theorem State.abort_msgSize (s : State) (c : Cause) (n : Word) : (s.abort c n).msgSize = s.msgSize := rfl

@[simp] theorem State.abort_size (s : State) (c : Cause) (n : Word) : (s.abort c n).size = s.size := rfl

@[simp] theorem State.abort_checked (s : State) (c : Cause) (n : Word) : (s.abort c n).checked = s.checked := rfl

@[simp] theorem State.abort_upc (s : State) (c : Cause) (n : Word) : (s.abort c n).upc = s.upc := rfl

@[simp] theorem State.abort_h (s : State) (c : Cause) (n : Word) : (s.abort c n).h = s.h := rfl

@[simp] theorem State.abort_blk (s : State) (c : Cause) (n : Word) : (s.abort c n).blk = s.blk := rfl

@[simp] theorem State.abort_ptr (s : State) (c : Cause) (n : Word) : (s.abort c n).ptr = s.ptr := rfl

@[simp] theorem State.abort_w (s : State) (c : Cause) (n : Word) : (s.abort c n).w = s.w := rfl

@[simp] theorem State.abort_hblk (s : State) (c : Cause) (n : Word) : (s.abort c n).hblk = s.hblk := rfl

@[simp] theorem State.abort_hptr (s : State) (c : Cause) (n : Word) : (s.abort c n).hptr = s.hptr := rfl

@[simp] theorem State.abort_vptr (s : State) (c : Cause) (n : Word) : (s.abort c n).vptr = s.vptr := rfl

@[simp] theorem State.abort_last (s : State) (c : Cause) (n : Word) : (s.abort c n).last = s.last := rfl

@[simp] theorem State.abort_digest (s : State) (c : Cause) (n : Word) : (s.abort c n).digest = s.digest := rfl

@[simp] theorem State.abort_buffer (s : State) (c : Cause) (n : Word) : (s.abort c n).buffer = s.buffer := rfl

@[simp] theorem State.abort_hostActions (s : State) (c : Cause) (n : Word) : (s.abort c n).hostActions = s.hostActions := rfl

@[simp] theorem State.abort_freeCount (s : State) (c : Cause) (n : Word) : (s.abort c n).freeCount = s.freeCount := rfl

/-! `reject` -/

@[simp] theorem State.reject_capacity (s : State) (c : Cause) (n : Word) : (s.reject c n).capacity = s.capacity := rfl

@[simp] theorem State.reject_hintSource (s : State) (c : Cause) (n : Word) : (s.reject c n).hintSource = s.hintSource := rfl

@[simp] theorem State.reject_blockState (s : State) (c : Cause) (n : Word) : (s.reject c n).blockState = .rejected := rfl

@[simp] theorem State.reject_ovr (s : State) (c : Cause) (n : Word) : (s.reject c n).ovr = false := rfl

@[simp] theorem State.reject_cause (s : State) (c : Cause) (n : Word) : (s.reject c n).cause = c := rfl

@[simp] theorem State.reject_mode (s : State) (c : Cause) (n : Word) : (s.reject c n).mode = s.mode := rfl

@[simp] theorem State.reject_info (s : State) (c : Cause) (n : Word) : (s.reject c n).info = n := rfl

@[simp] theorem State.reject_msgSize (s : State) (c : Cause) (n : Word) : (s.reject c n).msgSize = s.msgSize := rfl

@[simp] theorem State.reject_size (s : State) (c : Cause) (n : Word) : (s.reject c n).size = s.size := rfl

@[simp] theorem State.reject_checked (s : State) (c : Cause) (n : Word) : (s.reject c n).checked = s.checked := rfl

@[simp] theorem State.reject_upc (s : State) (c : Cause) (n : Word) : (s.reject c n).upc = s.upc := rfl

@[simp] theorem State.reject_h (s : State) (c : Cause) (n : Word) : (s.reject c n).h = s.h := rfl

@[simp] theorem State.reject_blk (s : State) (c : Cause) (n : Word) : (s.reject c n).blk = s.blk := rfl

@[simp] theorem State.reject_ptr (s : State) (c : Cause) (n : Word) : (s.reject c n).ptr = s.ptr := rfl

@[simp] theorem State.reject_w (s : State) (c : Cause) (n : Word) : (s.reject c n).w = s.w := rfl

@[simp] theorem State.reject_hblk (s : State) (c : Cause) (n : Word) : (s.reject c n).hblk = s.hblk := rfl

@[simp] theorem State.reject_hptr (s : State) (c : Cause) (n : Word) : (s.reject c n).hptr = s.hptr := rfl

@[simp] theorem State.reject_vptr (s : State) (c : Cause) (n : Word) : (s.reject c n).vptr = s.vptr := rfl

@[simp] theorem State.reject_last (s : State) (c : Cause) (n : Word) : (s.reject c n).last = s.last := rfl

@[simp] theorem State.reject_digest (s : State) (c : Cause) (n : Word) : (s.reject c n).digest = s.digest := rfl

@[simp] theorem State.reject_buffer (s : State) (c : Cause) (n : Word) : (s.reject c n).buffer = s.buffer := rfl

@[simp] theorem State.reject_hostActions (s : State) (c : Cause) (n : Word) : (s.reject c n).hostActions = s.hostActions := rfl

@[simp] theorem State.reject_freeCount (s : State) (c : Cause) (n : Word) : (s.reject c n).freeCount = s.freeCount := rfl

/-! `accept` -/

@[simp] theorem State.accept_capacity (s : State) (c : Bool) (z : DWord) : (s.accept c z).capacity = s.capacity := rfl

@[simp] theorem State.accept_hintSource (s : State) (c : Bool) (z : DWord) : (s.accept c z).hintSource = s.hintSource := rfl

@[simp] theorem State.accept_blockState (s : State) (c : Bool) (z : DWord) : (s.accept c z).blockState = .busy := rfl

@[simp] theorem State.accept_ovr (s : State) (c : Bool) (z : DWord) : (s.accept c z).ovr = false := rfl

@[simp] theorem State.accept_cause (s : State) (c : Bool) (z : DWord) : (s.accept c z).cause = .none := rfl

@[simp] theorem State.accept_mode (s : State) (c : Bool) (z : DWord) : (s.accept c z).mode = c := rfl

@[simp] theorem State.accept_info (s : State) (c : Bool) (z : DWord) : (s.accept c z).info = 0 := rfl

@[simp] theorem State.accept_msgSize (s : State) (c : Bool) (z : DWord) : (s.accept c z).msgSize = s.msgSize := rfl

@[simp] theorem State.accept_size (s : State) (c : Bool) (z : DWord) : (s.accept c z).size = z := rfl

@[simp] theorem State.accept_checked (s : State) (c : Bool) (z : DWord) : (s.accept c z).checked = c := rfl

@[simp] theorem State.accept_upc (s : State) (c : Bool) (z : DWord) : (s.accept c z).upc = 0 := rfl

@[simp] theorem State.accept_h (s : State) (c : Bool) (z : DWord) : (s.accept c z).h = s.h := rfl

@[simp] theorem State.accept_blk (s : State) (c : Bool) (z : DWord) : (s.accept c z).blk = s.blk := rfl

@[simp] theorem State.accept_ptr (s : State) (c : Bool) (z : DWord) : (s.accept c z).ptr = s.ptr := rfl

@[simp] theorem State.accept_w (s : State) (c : Bool) (z : DWord) : (s.accept c z).w = s.w := rfl

@[simp] theorem State.accept_hblk (s : State) (c : Bool) (z : DWord) : (s.accept c z).hblk = s.hblk := rfl

@[simp] theorem State.accept_hptr (s : State) (c : Bool) (z : DWord) : (s.accept c z).hptr = s.hptr := rfl

@[simp] theorem State.accept_vptr (s : State) (c : Bool) (z : DWord) : (s.accept c z).vptr = s.vptr := rfl

@[simp] theorem State.accept_last (s : State) (c : Bool) (z : DWord) : (s.accept c z).last = s.last := rfl

@[simp] theorem State.accept_digest (s : State) (c : Bool) (z : DWord) : (s.accept c z).digest = Config.unspecifiedDigest s.freeCount := rfl

@[simp] theorem State.accept_buffer (s : State) (c : Bool) (z : DWord) : (s.accept c z).buffer = s.buffer := rfl

@[simp] theorem State.accept_hostActions (s : State) (c : Bool) (z : DWord) : (s.accept c z).hostActions = s.hostActions := rfl

@[simp] theorem State.accept_freeCount (s : State) (c : Bool) (z : DWord) : (s.accept c z).freeCount = s.freeCount + 1 := rfl

/-! `overrun` -/

@[simp] theorem State.overrun_capacity (s : State) : (s.overrun).capacity = s.capacity := rfl

@[simp] theorem State.overrun_hintSource (s : State) : (s.overrun).hintSource = s.hintSource := rfl

@[simp] theorem State.overrun_blockState (s : State) : (s.overrun).blockState = s.blockState := rfl

@[simp] theorem State.overrun_ovr (s : State) : (s.overrun).ovr = true := rfl

@[simp] theorem State.overrun_cause (s : State) : (s.overrun).cause = s.cause := rfl

@[simp] theorem State.overrun_mode (s : State) : (s.overrun).mode = s.mode := rfl

@[simp] theorem State.overrun_info (s : State) : (s.overrun).info = s.info := rfl

@[simp] theorem State.overrun_msgSize (s : State) : (s.overrun).msgSize = s.msgSize := rfl

@[simp] theorem State.overrun_size (s : State) : (s.overrun).size = s.size := rfl

@[simp] theorem State.overrun_checked (s : State) : (s.overrun).checked = s.checked := rfl

@[simp] theorem State.overrun_upc (s : State) : (s.overrun).upc = s.upc := rfl

@[simp] theorem State.overrun_h (s : State) : (s.overrun).h = s.h := rfl

@[simp] theorem State.overrun_blk (s : State) : (s.overrun).blk = s.blk := rfl

@[simp] theorem State.overrun_ptr (s : State) : (s.overrun).ptr = s.ptr := rfl

@[simp] theorem State.overrun_w (s : State) : (s.overrun).w = s.w := rfl

@[simp] theorem State.overrun_hblk (s : State) : (s.overrun).hblk = s.hblk := rfl

@[simp] theorem State.overrun_hptr (s : State) : (s.overrun).hptr = s.hptr := rfl

@[simp] theorem State.overrun_vptr (s : State) : (s.overrun).vptr = s.vptr := rfl

@[simp] theorem State.overrun_last (s : State) : (s.overrun).last = s.last := rfl

@[simp] theorem State.overrun_digest (s : State) : (s.overrun).digest = s.digest := rfl

@[simp] theorem State.overrun_buffer (s : State) : (s.overrun).buffer = s.buffer := rfl

@[simp] theorem State.overrun_hostActions (s : State) : (s.overrun).hostActions = s.hostActions := rfl

@[simp] theorem State.overrun_freeCount (s : State) : (s.overrun).freeCount = s.freeCount := rfl

/-! `resetBlock` -/

@[simp] theorem State.resetBlock_capacity (s : State) : (s.resetBlock).capacity = s.capacity := rfl

@[simp] theorem State.resetBlock_hintSource (s : State) : (s.resetBlock).hintSource = s.hintSource := rfl

@[simp] theorem State.resetBlock_blockState (s : State) : (s.resetBlock).blockState = .idle := rfl

@[simp] theorem State.resetBlock_ovr (s : State) : (s.resetBlock).ovr = false := rfl

@[simp] theorem State.resetBlock_cause (s : State) : (s.resetBlock).cause = .none := rfl

@[simp] theorem State.resetBlock_mode (s : State) : (s.resetBlock).mode = false := rfl

@[simp] theorem State.resetBlock_info (s : State) : (s.resetBlock).info = 0 := rfl

@[simp] theorem State.resetBlock_msgSize (s : State) : (s.resetBlock).msgSize = s.msgSize := rfl

@[simp] theorem State.resetBlock_size (s : State) : (s.resetBlock).size = s.size := rfl

@[simp] theorem State.resetBlock_checked (s : State) : (s.resetBlock).checked = s.checked := rfl

@[simp] theorem State.resetBlock_upc (s : State) : (s.resetBlock).upc = s.upc := rfl

@[simp] theorem State.resetBlock_h (s : State) : (s.resetBlock).h = s.h := rfl

@[simp] theorem State.resetBlock_blk (s : State) : (s.resetBlock).blk = s.blk := rfl

@[simp] theorem State.resetBlock_ptr (s : State) : (s.resetBlock).ptr = s.ptr := rfl

@[simp] theorem State.resetBlock_w (s : State) : (s.resetBlock).w = s.w := rfl

@[simp] theorem State.resetBlock_hblk (s : State) : (s.resetBlock).hblk = s.hblk := rfl

@[simp] theorem State.resetBlock_hptr (s : State) : (s.resetBlock).hptr = s.hptr := rfl

@[simp] theorem State.resetBlock_vptr (s : State) : (s.resetBlock).vptr = s.vptr := rfl

@[simp] theorem State.resetBlock_last (s : State) : (s.resetBlock).last = s.last := rfl

@[simp] theorem State.resetBlock_digest (s : State) : (s.resetBlock).digest = s.digest := rfl

@[simp] theorem State.resetBlock_buffer (s : State) : (s.resetBlock).buffer = s.buffer := rfl

@[simp] theorem State.resetBlock_hostActions (s : State) : (s.resetBlock).hostActions = s.hostActions := rfl

@[simp] theorem State.resetBlock_freeCount (s : State) : (s.resetBlock).freeCount = s.freeCount := rfl

end Sys2Proof.Machine
end

