-- ==== Sys2Proof/Laws/Memory.lean ====
section
/-! SUPPORT. The message buffer's list: every operation keeps the canonical form, a store is read back, and it
leaves every other index alone. -/

namespace Sys2Proof.Machine

theorem Memory.wfFrom_mono {m : List Host.Cell} {low low' : Nat} (hle : low' ≤ low)
    (h : Memory.wfFrom low m = true) : Memory.wfFrom low' m = true := by
  cases m with
  | nil => rfl
  | cons c rest =>
    obtain ⟨a, b⟩ := c
    simp only [Memory.wfFrom, Bool.and_eq_true, decide_eq_true_eq] at h ⊢
    exact ⟨⟨by omega, h.1.2⟩, h.2⟩

/-- An index below every listed one reads as an unlisted byte. -/
theorem Memory.lookup_of_lt {m : List Host.Cell} {low k : Nat} (h : Memory.wfFrom low m = true) (hk : k < low) :
    Memory.lookup m k = unwrittenByte := by
  induction m generalizing low with
  | nil => rfl
  | cons c rest ih =>
    obtain ⟨a, b⟩ := c
    simp only [Memory.wfFrom, Bool.and_eq_true, decide_eq_true_eq] at h
    have hne : a ≠ k := by omega
    simp only [Memory.lookup, if_neg hne]
    exact ih h.2 (by omega)

theorem Memory.store_wfFrom {m : List Host.Cell} {low k : Nat} (b : Byte) (h : Memory.wfFrom low m = true)
    (hk : low ≤ k) : Memory.wfFrom low (Memory.store m k b) = true := by
  induction m generalizing low with
  | nil =>
    by_cases hb : b = unwrittenByte <;> simp [Memory.store, Memory.wfFrom, hb, hk]
  | cons c rest ih =>
    obtain ⟨a, d⟩ := c
    simp only [Memory.wfFrom, Bool.and_eq_true, decide_eq_true_eq] at h
    obtain ⟨⟨hla, hd⟩, hrest⟩ := h
    by_cases hlt : a < k
    · simp only [Memory.store, if_pos hlt, Memory.wfFrom, Bool.and_eq_true, decide_eq_true_eq]
      exact ⟨⟨hla, hd⟩, ih hrest hlt⟩
    · by_cases heq : a = k
      · subst heq
        by_cases hb : b = unwrittenByte
        · simpa [Memory.store, hb] using Memory.wfFrom_mono (by omega) hrest
        · simp [Memory.store, Memory.wfFrom, hb, hk, hrest]
      · have hka : k + 1 ≤ a := by omega
        by_cases hb : b = unwrittenByte
        · simp [Memory.store, Memory.wfFrom, hb, hlt, heq, hla, hd, hrest]
        · simp [Memory.store, Memory.wfFrom, hb, hlt, heq, hk, hka, hd, hrest]

theorem Memory.store_wf {m : List Host.Cell} (k : Nat) (b : Byte) (h : Memory.wf m = true) :
    Memory.wf (Memory.store m k b) = true := Memory.store_wfFrom b h (Nat.zero_le k)

/-- Every listed index after a store was listed before or is the index stored to. -/
theorem Memory.mem_store {m : List Host.Cell} {k : Nat} {b : Byte} {c : Host.Cell}
    (h : c ∈ Memory.store m k b) : c.1 = k ∨ c ∈ m := by
  induction m with
  | nil =>
    by_cases hb : b = unwrittenByte
    · simp [Memory.store, hb] at h
    · simp only [Memory.store, if_neg hb, List.mem_singleton] at h
      exact .inl (by rw [h])
  | cons d rest ih =>
    obtain ⟨a, e⟩ := d
    by_cases hlt : a < k
    · simp only [Memory.store, if_pos hlt, List.mem_cons] at h ⊢
      rcases h with h | h
      · exact .inr (.inl h)
      · exact (ih h).imp_right .inr
    · by_cases heq : a = k
      · subst heq
        by_cases hb : b = unwrittenByte
        · rw [Memory.store, if_neg hlt, if_pos rfl, if_pos hb] at h
          exact .inr (List.mem_cons_of_mem _ h)
        · rw [Memory.store, if_neg hlt, if_pos rfl, if_neg hb] at h
          rcases List.mem_cons.mp h with h | h
          · exact .inl (by rw [h])
          · exact .inr (List.mem_cons_of_mem _ h)
      · by_cases hb : b = unwrittenByte
        · rw [Memory.store, if_neg hlt, if_neg heq, if_pos hb] at h
          exact .inr h
        · rw [Memory.store, if_neg hlt, if_neg heq, if_neg hb] at h
          rcases List.mem_cons.mp h with h | h
          · exact .inl (by rw [h])
          · exact .inr h

theorem Memory.lookup_store_same {m : List Host.Cell} {low : Nat} (k : Nat) (b : Byte)
    (h : Memory.wfFrom low m = true) : Memory.lookup (Memory.store m k b) k = b := by
  induction m generalizing low with
  | nil => by_cases hb : b = unwrittenByte <;> simp [Memory.store, Memory.lookup, hb]
  | cons c rest ih =>
    obtain ⟨a, d⟩ := c
    simp only [Memory.wfFrom, Bool.and_eq_true, decide_eq_true_eq] at h
    obtain ⟨⟨hla, hd⟩, hrest⟩ := h
    by_cases hlt : a < k
    · have hne : a ≠ k := by omega
      simp only [Memory.store, if_pos hlt, Memory.lookup, if_neg hne]
      exact ih hrest
    · by_cases heq : a = k
      · subst heq
        by_cases hb : b = unwrittenByte
        · simpa [Memory.store, hb] using Memory.lookup_of_lt hrest (Nat.lt_succ_self a)
        · simp [Memory.store, Memory.lookup, hb]
      · by_cases hb : b = unwrittenByte
        · have := Memory.lookup_of_lt hrest (show k < a + 1 by omega)
          simp [Memory.store, Memory.lookup, hlt, heq, hb, this]
        · simp [Memory.store, Memory.lookup, hlt, heq, hb]

theorem Memory.lookup_store_other {m : List Host.Cell} {k k' : Nat} (b : Byte) (hne : k' ≠ k) {low : Nat}
    (h : Memory.wfFrom low m = true) : Memory.lookup (Memory.store m k b) k' = Memory.lookup m k' := by
  induction m generalizing low with
  | nil =>
    by_cases hb : b = unwrittenByte
    · simp [Memory.store, hb]
    · simp [Memory.store, Memory.lookup, hb, hne.symm]
  | cons c rest ih =>
    obtain ⟨a, d⟩ := c
    simp only [Memory.wfFrom, Bool.and_eq_true, decide_eq_true_eq] at h
    obtain ⟨⟨hla, hd⟩, hrest⟩ := h
    by_cases hlt : a < k
    · simp only [Memory.store, if_pos hlt, Memory.lookup]
      split
      · rfl
      · exact ih hrest
    · by_cases heq : a = k
      · subst heq
        by_cases hb : b = unwrittenByte <;> simp [Memory.store, Memory.lookup, hb, hne.symm]
      · by_cases hb : b = unwrittenByte <;> simp [Memory.store, Memory.lookup, hlt, heq, hb, hne.symm]

theorem reset_buffer_wf : Memory.wf State.reset.buffer = true := rfl

/-! `memRead`. -/

theorem memRead_of_lt {s : State} {k : Nat} (h : k < s.bufferSize) :
    memRead s k = some (Memory.lookup s.buffer k) := by simp [memRead, h]

theorem memRead_of_le {s : State} {k : Nat} (h : s.bufferSize ≤ k) : memRead s k = none := by
  simp [memRead, Nat.not_lt.mpr h]

/-- A read depends on the capacity and the buffer alone. -/
theorem memRead_congr {s t : State} (hc : t.capacity = s.capacity) (hb : t.buffer = s.buffer) (k : Nat) :
    memRead t k = memRead s k := by unfold memRead State.bufferSize; rw [hc, hb]

end Sys2Proof.Machine
end

