-- ==== Sys2Proof/Laws/Ops.lean ====
section
/-! SUPPORT. What each shared operation can do, said once. -/

namespace Sys2Proof.Machine

/-! The compression primitive. -/

/-- The named property of COMPRESS_FN (R192), all that is known of it. -/
theorem compressFn_eq (w : Vector Word 16) (hs : Vector Word 8) : compressFn w hs = sha256Compress w hs :=
  congrFun (congrFun Config.compressPrimitive.property w) hs

/-! The end of an instruction. -/

@[simp] theorem complete_eq_next (s t : State) : complete s = .next t ↔ s.advance = t := by simp [complete]

theorem settleTests_next {s ok t : State} {v : Option TestFailure} (h : settleTests s v ok = .next t) :
    (v = none ∧ t = ok.advance) ∨ ∃ c n, v = some (.abort c n) ∧ t = s.abort c (BitVec.ofNat 32 n) := by
  unfold settleTests at h
  split at h
  · exact .inl ⟨rfl, ((complete_eq_next _ _).mp h).symm⟩
  · exact .inr ⟨_, _, rfl, (Host.Outcome.next.inj h).symm⟩
  · cases h

theorem issueGate_accepts {s : State} {f : State → State} (h : AcceptsCommands s) : issueGate s f = f s := by
  rcases h with h | h | h <;> simp [issueGate, h]

theorem issueGate_busy {s : State} {f : State → State} (h : s.blockState = .busy) : issueGate s f = s.overrun := by
  simp [issueGate, h]

theorem issueGate_aborted {s : State} {f : State → State} (h : s.blockState = .aborted) : issueGate s f = s := by
  simp [issueGate, h]

/-- A command is ignored, an overrun, or handled (R100). -/
theorem issueGate_cases (s : State) (f : State → State) :
    (s.blockState = .aborted ∧ issueGate s f = s) ∨ (s.blockState = .busy ∧ issueGate s f = s.overrun) ∨
      (AcceptsCommands s ∧ issueGate s f = f s) := by
  unfold issueGate AcceptsCommands
  cases s.blockState <;> simp

/-! Counts and pointers. -/

theorem pointer_toNat {n : Nat} (h : n ≤ 64) : (pointer n).toNat = n := by
  simp only [pointer, BitVec.toNat_ofNat]; omega

theorem windowInMessage_iff (s : State) (i : Nat) : windowInMessage s i = true ↔ 64 * i < s.size.toNat :=
  decide_eq_true_iff

theorem windowCount_eq (s : State) (i : Nat) : windowCount s i = min 64 (s.size.toNat - 64 * i) := by
  unfold windowCount
  split
  · simp [windowOffset]
  · next h => rw [windowInMessage_iff] at h; omega

theorem windowCount_le (s : State) (i : Nat) : windowCount s i ≤ 64 := by rw [windowCount_eq]; omega

theorem lt_windowCount_iff (s : State) (i : Nat) (j : Fin 64) :
    j.val < windowCount s i ↔ 64 * i + j.val < s.size.toNat := by
  have := j.isLt
  rw [windowCount_eq]; omega

/-- With SIZE at most `N` a window's message bytes are bytes of the buffer (R130). -/
theorem windowReadable_of_size_le {s : State} (i : Nat) (h : s.size.toNat ≤ s.bufferSize) :
    windowReadable s i = true := by
  unfold windowReadable windowOffset
  rw [windowCount_eq]
  simp only [Bool.or_eq_true, decide_eq_true_eq]
  omega

theorem windowBytes_get (s : State) (i : Nat) (j : Fin 64) :
    (windowBytes s i)[j] = if 64 * i + j.val < s.size.toNat then Memory.lookup s.buffer (64 * i + j.val) else 0 := by
  simp only [windowBytes, Fin.getElem_fin, Vector.getElem_ofFn, windowOffset]
  simp only [lt_windowCount_iff]

/-! Tests in ascending order. -/

theorem findSome_finRange_none {n : Nat} {α : Type} (f : Fin n → Option α) :
    (List.finRange n).findSome? f = none ↔ ∀ j, f j = none := by simp

/-- The first index that gives a value decides. -/
theorem findSome_finRange_first {n : Nat} {α : Type} {f : Fin n → Option α} {j : Fin n} {x : α} (hj : f j = some x)
    (hbefore : ∀ j', j' < j → f j' = none) : (List.finRange n).findSome? f = some x := by
  rw [List.findSome?_eq_some_iff]
  refine ⟨(List.finRange n).take j.val, j, (List.finRange n).drop (j.val + 1), ?_, hj, ?_⟩
  · have hlen : j.val < (List.finRange n).length := by simp
    have := List.take_append_drop j.val (List.finRange n)
    rw [List.drop_eq_getElem_cons hlen] at this
    simpa using this.symm
  · intro x hx
    apply hbefore
    rw [List.mem_take_iff_getElem] at hx
    obtain ⟨k, hk, rfl⟩ := hx
    simp only [List.getElem_finRange]
    simp only [Fin.lt_def, Fin.val_cast]
    omega

/-- A byte passes VBLK's tests, or names the failure reported (R132). -/
theorem windowTest_none_iff (s : State) (i : Nat) (j : Fin 64) :
    windowTest s i j = none ↔ WindowBytePasses s i j := by
  unfold windowTest WindowBytePasses windowOffset
  simp only [lt_windowCount_iff]
  by_cases h : 64 * i + j.val < s.size.toNat
  · simp only [h, if_true, true_implies, Nat.not_le.mpr h, false_implies, and_true]
    cases hm : memRead s (64 * i + j.val) with
    | none => simp
    | some b => simp [eq_comm]
  · simp only [h, if_false, false_implies, true_and, Nat.le_of_not_lt h, true_implies]
    by_cases hz : s.hblk[j] = 0
    · by_cases hn : 64 * i + j.val < s.bufferSize
      · simp [memRead, hz, hn]
      · simp [memRead, hz, hn]
    · have hz' : ¬ s.hblk[j.val] = 0#8 := hz
      simp [hz']

theorem windowVerdict_none_iff (s : State) (i : Nat) :
    windowVerdict s i = none ↔ ∀ j, WindowBytePasses s i j := by
  unfold windowVerdict
  rw [findSome_finRange_none]
  simp only [windowTest_none_iff]

theorem trailerTest_none_iff (s : State) :
    trailerTest s = none ↔ (lengthField s.blk).toNat = s.size.toNat * 8 := by
  unfold trailerTest bitLength
  rw [Nat.mul_comm]
  split
  · next h => simp [h]
  · next h => simpa using h

theorem prefixTest_none_iff (s : State) :
    prefixTest s = none ↔ ∀ j : Fin 64, j.val < s.ptr.toNat → s.blk[j] = s.last[j] := by
  unfold prefixTest
  rw [findSome_finRange_none]
  simp

theorem pastBlockTest_none_iff (s : State) : pastBlockTest s = none ↔ s.ptr.toNat ≤ 64 := by
  simp [pastBlockTest]

theorem fillTest_none_iff (s : State) :
    fillTest s = none ↔ ∀ j : Fin 64, s.ptr.toNat ≤ j.val → j.val < 56 → s.blk[j] = 0 := by
  unfold fillTest
  rw [findSome_finRange_none]
  simp

theorem lengthVerdict_none_iff (s : State) :
    lengthVerdict s = none ↔ trailerTest s = none ∧ prefixTest s = none ∧ pastBlockTest s = none ∧
      fillTest s = none := by
  simp [lengthVerdict, and_assoc]

end Sys2Proof.Machine
end

