-- ==== Sys2Proof/Laws/Bytes.lean ====
section
/-! SUPPORT. The byte layouts read element by element and as numbers. -/

namespace Sys2Proof.Machine

theorem be32_toNat (a b c d : Byte) :
    (be32 a b c d).toNat = a.toNat * 2 ^ 24 + b.toNat * 2 ^ 16 + c.toNat * 2 ^ 8 + d.toNat := by
  simp only [be32, BitVec.toNat_append]
  rw [← Nat.shiftLeft_add_eq_or_of_lt d.isLt, ← Nat.shiftLeft_add_eq_or_of_lt c.isLt,
    ← Nat.shiftLeft_add_eq_or_of_lt b.isLt]
  simp only [Nat.shiftLeft_eq]
  omega

theorem byteOfWord_toNat (w : Word) (b : Nat) : (byteOfWord w b).toNat = w.toNat / 2 ^ (24 - 8 * b) % 256 := by
  simp only [byteOfWord, BitVec.extractLsb'_toNat, Nat.shiftRight_eq_div_pow]

theorem byteOfDWord_toNat (d : DWord) (b : Nat) : (byteOfDWord d b).toNat = d.toNat / 2 ^ (56 - 8 * b) % 256 := by
  simp only [byteOfDWord, BitVec.extractLsb'_toNat, Nat.shiftRight_eq_div_pow]

theorem packWords_get (b : Vector Byte 64) (j : Nat) (h : j < 16) :
    (packWords b)[j] = be32 b[4 * j] b[4 * j + 1] b[4 * j + 2] b[4 * j + 3] := by
  simp [packWords]

theorem digestBytes_get (h : Vector Word 8) (j b : Nat) (hj : j < 8) (hb : b < 4) :
    (digestBytes h)[4 * j + b] = byteOfWord h[j] b := by
  simp only [digestBytes, Vector.getElem_ofFn]
  congr 1
  · congr 1
    omega
  · omega

theorem lengthField_toNat (b : Vector Byte 64) :
    (lengthField b).toNat =
      b[56].toNat * 2 ^ 56 + b[57].toNat * 2 ^ 48 + b[58].toNat * 2 ^ 40 + b[59].toNat * 2 ^ 32 +
        b[60].toNat * 2 ^ 24 + b[61].toNat * 2 ^ 16 + b[62].toNat * 2 ^ 8 + b[63].toNat := by
  unfold lengthField be64
  rw [BitVec.toNat_append, ← Nat.shiftLeft_add_eq_or_of_lt (BitVec.isLt _), be32_toNat, be32_toNat,
    Nat.shiftLeft_eq]
  omega

/-- The bytes of the length field are the last eight of the block. -/
theorem byteOf_lengthField (b : Vector Byte 64) (j : Nat) (h : j < 8) :
    byteOfDWord (lengthField b) j = b[56 + j] := by
  apply BitVec.eq_of_toNat_eq
  have h0 := b[56].isLt
  have h1 := b[57].isLt
  have h2 := b[58].isLt
  have h3 := b[59].isLt
  have h4 := b[60].isLt
  have h5 := b[61].isLt
  have h6 := b[62].isLt
  have h7 := b[63].isLt
  rw [byteOfDWord_toNat, lengthField_toNat]
  interval_cases j <;> simp only [Nat.reduceMul, Nat.reduceSub, Nat.reduceAdd] <;> omega

theorem paddedBlock_get (s : State) (j : Nat) (h : j < 64) :
    (paddedBlock s)[j] =
      if j < 56 then (if s.ptr.toNat ≤ j then 0 else s.blk[j])
      else byteOfDWord (BitVec.ofNat 64 (8 * s.size.toNat)) (j - 56) := by
  simp only [paddedBlock, Vector.getElem_ofFn, bitLength, Fin.getElem_fin]

/-- `DIGEST_W[j] = H[j]` once D serialises H (R221, D24). -/
theorem be32_digestBytes (h : Vector Word 8) (j : Nat) (hj : j < 8) :
    be32 (digestBytes h)[4 * j] (digestBytes h)[4 * j + 1] (digestBytes h)[4 * j + 2] (digestBytes h)[4 * j + 3] =
      h[j] := by
  have h0 : (digestBytes h)[4 * j] = byteOfWord h[j] 0 := digestBytes_get h j 0 hj (by omega)
  rw [h0, digestBytes_get h j 1 hj (by omega), digestBytes_get h j 2 hj (by omega),
    digestBytes_get h j 3 hj (by omega)]
  apply BitVec.eq_of_toNat_eq
  have := h[j].isLt
  simp only [be32_toNat, byteOfWord_toNat]
  omega

end Sys2Proof.Machine
end

