-- ==== Sys2Proof/Laws/Encoding.lean ====
section
/-! SUPPORT. The fields of the two encodings, read off the word as a number. -/

namespace Sys2Proof

theorem commandReserved_toNat (w : Word) : (commandReserved w).toNat = w.toNat / 512 := by
  have := w.isLt
  simp only [commandReserved, BitVec.extractLsb'_toNat, Nat.shiftRight_eq_div_pow]
  exact Nat.mod_eq_of_lt (by omega)

theorem commandOp_toNat (w : Word) : (commandOp w).toNat = w.toNat % 256 := by
  simp [commandOp, BitVec.extractLsb'_toNat]

theorem commandChecked_eq (w : Word) : commandChecked w = decide (w.toNat / 256 % 2 = 1) := by
  simp [commandChecked, BitVec.getLsbD, Nat.testBit_eq_decide_div_mod_eq]

theorem microOp_toNat (w : Word) : (microOp w).toNat = w.toNat % 64 := by
  simp [microOp, BitVec.extractLsb'_toNat]

theorem microIdx_toNat (w : Word) : (microIdx w).toNat = w.toNat / 64 := by
  have := w.isLt
  simp only [microIdx, BitVec.extractLsb'_toNat, Nat.shiftRight_eq_div_pow]
  exact Nat.mod_eq_of_lt (by omega)

theorem microWord_toNat (op : BitVec 6) (n : Nat) (h : n < 2 ^ 26) :
    (microWord op n).toNat = 64 * n + op.toNat := by
  have := op.isLt
  simp only [microWord, BitVec.toNat_append, BitVec.toNat_ofNat, Nat.mod_eq_of_lt h]
  rw [← Nat.shiftLeft_add_eq_or_of_lt op.isLt, Nat.shiftLeft_eq]
  omega

theorem commandWord_toNat (op : BitVec 8) (c : Bool) : (commandWord op c).toNat = 256 * c.toNat + op.toNat := by
  have := op.isLt
  simp only [commandWord, BitVec.toNat_append]
  rw [← Nat.shiftLeft_add_eq_or_of_lt op.isLt, Nat.shiftLeft_eq]
  cases c <;> simp

end Sys2Proof
end

