-- ==== Sys2Proof/Laws/Exec.lean ====
section
/-! SUPPORT. One equation for every form of every instruction: what `exec` answers, in the register writes of
Machine/Ops.lean. -/

namespace Sys2Proof.Machine

theorem drawsHints_false {s : State} (h : s.hintSource = .builder ∨ s.checked = false) : drawsHints s = false := by
  unfold drawsHints
  rcases h with h | h <;> rw [h] <;> simp

theorem drawsHints_true {s : State} (ho : s.hintSource = .oracle) (hc : s.checked = true) : drawsHints s = true := by
  unfold drawsHints
  rw [ho, hc]
  rfl

theorem unchecked_ne {s : State} (h : s.checked = false) : ¬ s.checked = true := by rw [h]; exact Bool.false_ne_true

/-! Commands. -/

theorem exec_hashVar_eq (c : Bool) (s : State) : exec (.hashVar c) s = .next (issueGate s (startHashVar c)) := rfl

theorem exec_hashFull_eq (c : Bool) (s : State) : exec (.hashFull c) s = .next (issueGate s (startHashFull c)) := rfl

theorem exec_hashVar_accepts {c : Bool} {s : State} (ha : AcceptsCommands s) (h : s.msgSize.toNat ≤ s.bufferSize) :
    exec (.hashVar c) s = .next (s.accept c s.msgSize) := by
  rw [exec_hashVar_eq, issueGate_accepts ha, startHashVar, if_neg (Nat.not_lt.mpr h)]

theorem exec_hashVar_rejects {c : Bool} {s : State} (ha : AcceptsCommands s) (h : s.bufferSize < s.msgSize.toNat) :
    exec (.hashVar c) s = .next (s.reject .sizeRange 0) := by
  rw [exec_hashVar_eq, issueGate_accepts ha, startHashVar, if_pos h]

theorem exec_hashFull_accepts {c : Bool} {s : State} (ha : AcceptsCommands s) :
    exec (.hashFull c) s = .next (s.accept c (s.capacity.setWidth 64)) := by
  rw [exec_hashFull_eq, issueGate_accepts ha, startHashFull]

/-! Micro-operations. -/

theorem exec_init_eq (s : State) : exec .init s =
    .next (((s.writeHash initialHash).writeBlock (Vector.replicate 64 0)).writePointer 0).advance := rfl

theorem exec_build_hint {s : State} {i : Nat} (hr : windowReadable s i = true) (hd : drawsHints s = false) :
    exec (.build i) s = .next (s.writeHint (windowBytes s i) (pointer (windowCount s i))).advance := by
  show execBuild i s = _
  rw [execBuild, if_pos hr, buildHint, if_neg (by rw [hd]; exact Bool.false_ne_true)]
  rfl

theorem exec_build_draw {s : State} {i : Nat} (hr : windowReadable s i = true) (hd : drawsHints s = true) :
    exec (.build i) s = .next
      (s.writeHint (Config.drawBlock s.freeCount) (pointer (Config.drawPointer s.freeCount).val)).takeFree.advance := by
  show execBuild i s = _
  rw [execBuild, if_pos hr, buildHint, if_pos hd]
  rfl

theorem exec_vblk_unchecked {s : State} (i : Nat) (h : s.checked = false) : exec (.vblk i) s = .next s.advance := by
  show execVblk i s = _
  rw [execVblk, if_neg (unchecked_ne h)]
  rfl

theorem exec_vblk_checked {s : State} (i : Nat) (h : s.checked = true) :
    exec (.vblk i) s = settleTests s (windowVerdict s i) (s.writeVerified (pointer (windowCount s i))) := by
  show execVblk i s = _
  rw [execVblk, if_pos h]

theorem exec_vblk_passes {s : State} {i : Nat} (h : s.checked = true) (hv : ∀ j, WindowBytePasses s i j) :
    exec (.vblk i) s = .next (s.writeVerified (pointer (windowCount s i))).advance := by
  rw [exec_vblk_checked i h, (windowVerdict_none_iff s i).mpr hv]
  rfl

theorem exec_sel_in {s : State} {i : Nat} (h : 64 * i < s.size.toNat) :
    exec (.sel i) s = .next ((s.writeBlock s.hblk).writePointer (if s.checked then s.vptr else s.hptr)).advance := by
  show execSel i s = _
  rw [execSel, selectWindow, if_pos ((windowInMessage_iff s i).mpr h)]
  rfl

theorem exec_sel_out {s : State} {i : Nat} (h : s.size.toNat ≤ 64 * i) : exec (.sel i) s = .next s.advance := by
  show execSel i s = _
  rw [execSel, selectWindow, if_neg (by rw [windowInMessage_iff]; omega)]
  rfl

theorem exec_pack_eq (s : State) : exec .pack s = .next (s.writeWords (packWords s.blk)).advance := rfl

theorem exec_cmpb_taken {s : State} {i : Nat} (h : 64 * i < s.size.toNat) (hp : s.ptr.toNat = 64) :
    exec (.cmpb i) s = .next (s.writeHash (compressFn s.w s.h)).advance := by
  show execCmpb i s = _
  rw [execCmpb, if_pos ⟨(windowInMessage_iff s i).mpr h, hp⟩]
  rfl

theorem exec_cmpb_skipped {s : State} {i : Nat} (h : s.size.toNat ≤ 64 * i ∨ s.ptr.toNat ≠ 64) :
    exec (.cmpb i) s = .next s.advance := by
  show execCmpb i s = _
  rw [execCmpb, if_neg (by rw [windowInMessage_iff]; omega)]
  rfl

theorem exec_ptrwrap_full {s : State} (h : s.ptr.toNat = 64) : exec .ptrwrap s = .next (s.writePointer 0).advance := by
  show execPtrwrap s = _
  rw [execPtrwrap, if_pos h]
  rfl

theorem exec_ptrwrap_other {s : State} (h : s.ptr.toNat ≠ 64) : exec .ptrwrap s = .next s.advance := by
  show execPtrwrap s = _
  rw [execPtrwrap, if_neg h]
  rfl

theorem exec_term_eq {s : State} (h : s.ptr.toNat < 64) :
    exec .term s = .next ((s.writeBlock (s.blk.set s.ptr.toNat 0x80)).writePointer (s.ptr + 1)).advance := by
  show execTerm s = _
  rw [execTerm, dif_pos h]
  rfl

theorem exec_term_stops {s : State} (h : 64 ≤ s.ptr.toNat) : exec .term s = .fault .pointerPastBlock := by
  show execTerm s = _
  rw [execTerm, dif_neg (Nat.not_lt.mpr h)]

theorem exec_flush_taken {s : State} (h : 56 < s.ptr.toNat) :
    exec .flush s = .next ((s.writeHash (compressFn s.w s.h)).writePointer 0).advance := by
  show execFlush s = _
  rw [execFlush, if_pos h]
  rfl

theorem exec_flush_skipped {s : State} (h : s.ptr.toNat ≤ 56) : exec .flush s = .next s.advance := by
  show execFlush s = _
  rw [execFlush, if_neg (Nat.not_lt.mpr h)]
  rfl

theorem exec_attlen_hint {s : State} (hd : drawsHints s = false) :
    exec .attlen s = .next ((s.writeBlock (paddedBlock s)).writeLast s.blk).advance := by
  show execAttlen s = _
  rw [execAttlen, encodeLength, if_neg (by rw [hd]; exact Bool.false_ne_true)]
  rfl

theorem exec_attlen_draw {s : State} (hd : drawsHints s = true) :
    exec .attlen s = .next ((s.writeBlock (Config.drawBlock s.freeCount)).takeFree.writeLast s.blk).advance := by
  show execAttlen s = _
  rw [execAttlen, encodeLength, if_pos hd]
  rfl

theorem exec_vlen_unchecked {s : State} (h : s.checked = false) : exec .vlen s = .next s.advance := by
  show execVlen s = _
  rw [execVlen, if_neg (unchecked_ne h)]
  rfl

theorem exec_vlen_checked {s : State} (h : s.checked = true) :
    exec .vlen s = settleTests s (lengthVerdict s) s := by
  show execVlen s = _
  rw [execVlen, if_pos h]

theorem exec_cmpu_eq (s : State) : exec .cmpu s = .next (s.writeHash (compressFn s.w s.h)).advance := rfl

theorem exec_digest_eq (s : State) : exec .digest s = .next (s.writeDigest (digestBytes s.h)).advance := rfl

/-! Inversion: every next state of an instruction with several forms. -/

theorem exec_hashVar_cases {c : Bool} {s t : State} (h : exec (.hashVar c) s = .next t) :
    (s.blockState = .aborted ∧ t = s) ∨ (s.blockState = .busy ∧ t = s.overrun) ∨
      (AcceptsCommands s ∧ s.bufferSize < s.msgSize.toNat ∧ t = s.reject .sizeRange 0) ∨
      (AcceptsCommands s ∧ s.msgSize.toNat ≤ s.bufferSize ∧ t = s.accept c s.msgSize) := by
  rw [exec_hashVar_eq] at h
  have ht := (Host.Outcome.next.inj h).symm
  rcases issueGate_cases s (startHashVar c) with ⟨hb, he⟩ | ⟨hb, he⟩ | ⟨hb, he⟩
  · exact .inl ⟨hb, ht.trans he⟩
  · exact .inr (.inl ⟨hb, ht.trans he⟩)
  · rw [he, startHashVar] at ht
    split at ht
    · next hlt => exact .inr (.inr (.inl ⟨hb, hlt, ht⟩))
    · next hlt => exact .inr (.inr (.inr ⟨hb, Nat.le_of_not_lt hlt, ht⟩))

theorem exec_hashFull_cases {c : Bool} {s t : State} (h : exec (.hashFull c) s = .next t) :
    (s.blockState = .aborted ∧ t = s) ∨ (s.blockState = .busy ∧ t = s.overrun) ∨
      (AcceptsCommands s ∧ t = s.accept c (s.capacity.setWidth 64)) := by
  rw [exec_hashFull_eq] at h
  have ht := (Host.Outcome.next.inj h).symm
  rcases issueGate_cases s (startHashFull c) with ⟨hb, he⟩ | ⟨hb, he⟩ | ⟨hb, he⟩
  · exact .inl ⟨hb, ht.trans he⟩
  · exact .inr (.inl ⟨hb, ht.trans he⟩)
  · exact .inr (.inr ⟨hb, ht.trans he⟩)

theorem exec_build_cases {i : Nat} {s t : State} (h : exec (.build i) s = .next t) :
    windowReadable s i = true ∧
      ((drawsHints s = true ∧ t = (s.writeHint (Config.drawBlock s.freeCount)
          (pointer (Config.drawPointer s.freeCount).val)).takeFree.advance) ∨
        (drawsHints s = false ∧ t = (s.writeHint (windowBytes s i) (pointer (windowCount s i))).advance)) := by
  by_cases hr : windowReadable s i = true
  · refine ⟨hr, ?_⟩
    by_cases hd : drawsHints s = true
    · rw [exec_build_draw hr hd] at h
      exact .inl ⟨hd, (Host.Outcome.next.inj h).symm⟩
    · rw [Bool.not_eq_true] at hd
      rw [exec_build_hint hr hd] at h
      exact .inr ⟨hd, (Host.Outcome.next.inj h).symm⟩
  · have : exec (.build i) s = .fault (.bufferIndexOutOfRange (max s.bufferSize (windowOffset i))) := if_neg hr
    rw [this] at h
    cases h

/-- VBLK aborts with one of its three causes (R132). -/
theorem windowTest_abort {s : State} {i : Nat} {j : Fin 64} {c : Cause} {n : Nat}
    (h : windowTest s i j = some (.abort c n)) :
    c = .blockByteMismatch ∨ c = .blockPadNonzero ∨ c = .slackNonzero := by
  unfold windowTest at h
  dsimp only at h
  split at h
  · split at h
    · cases h
    · split at h <;> cases h
      exact .inl rfl
  · split at h
    · cases h
      exact .inr (.inl rfl)
    · split at h
      · cases h
      · split at h <;> cases h
        exact .inr (.inr rfl)

theorem windowVerdict_abort {s : State} {i : Nat} {c : Cause} {n : Nat}
    (h : windowVerdict s i = some (.abort c n)) :
    c = .blockByteMismatch ∨ c = .blockPadNonzero ∨ c = .slackNonzero := by
  obtain ⟨j, -, hj⟩ := List.exists_of_findSome?_eq_some h
  exact windowTest_abort hj

/-- VLEN aborts with one of its three causes (R160). -/
theorem lengthVerdict_abort {s : State} {c : Cause} {n : Nat} (h : lengthVerdict s = some (.abort c n)) :
    c = .lenTrailerMismatch ∨ c = .lenPrefixMismatch ∨ c = .lenFillNonzero := by
  unfold lengthVerdict at h
  rw [Option.or_eq_some_iff, Option.or_eq_some_iff, Option.or_eq_some_iff] at h
  rcases h with ((h | ⟨-, h⟩) | ⟨-, h⟩) | ⟨-, h⟩
  · unfold trailerTest at h
    split at h <;> cases h
    exact .inl rfl
  · obtain ⟨j, -, hj⟩ := List.exists_of_findSome?_eq_some h
    split at hj <;> cases hj
    exact .inr (.inl rfl)
  · unfold pastBlockTest at h
    split at h <;> cases h
  · obtain ⟨j, -, hj⟩ := List.exists_of_findSome?_eq_some h
    split at hj <;> cases hj
    exact .inr (.inr rfl)

theorem exec_vblk_cases {i : Nat} {s t : State} (h : exec (.vblk i) s = .next t) :
    (s.checked = false ∧ t = s.advance) ∨
      (s.checked = true ∧ (∀ j, WindowBytePasses s i j) ∧
        t = (s.writeVerified (pointer (windowCount s i))).advance) ∨
      (s.checked = true ∧ ∃ c n, windowVerdict s i = some (.abort c n) ∧ t = s.abort c (BitVec.ofNat 32 n)) := by
  by_cases hc : s.checked = true
  · rw [exec_vblk_checked i hc] at h
    rcases settleTests_next h with ⟨hv, ht⟩ | ⟨c, n, hv, ht⟩
    · exact .inr (.inl ⟨hc, (windowVerdict_none_iff s i).mp hv, ht⟩)
    · exact .inr (.inr ⟨hc, c, n, hv, ht⟩)
  · rw [Bool.not_eq_true] at hc
    rw [exec_vblk_unchecked i hc] at h
    exact .inl ⟨hc, (Host.Outcome.next.inj h).symm⟩

theorem exec_vlen_cases {s t : State} (h : exec .vlen s = .next t) :
    (s.checked = false ∧ t = s.advance) ∨ (s.checked = true ∧ lengthVerdict s = none ∧ t = s.advance) ∨
      (s.checked = true ∧ ∃ c n, lengthVerdict s = some (.abort c n) ∧ t = s.abort c (BitVec.ofNat 32 n)) := by
  by_cases hc : s.checked = true
  · rw [exec_vlen_checked hc] at h
    rcases settleTests_next h with ⟨hv, ht⟩ | ⟨c, n, hv, ht⟩
    · exact .inr (.inl ⟨hc, hv, ht⟩)
    · exact .inr (.inr ⟨hc, c, n, hv, ht⟩)
  · rw [Bool.not_eq_true] at hc
    rw [exec_vlen_unchecked hc] at h
    exact .inl ⟨hc, (Host.Outcome.next.inj h).symm⟩

theorem exec_sel_cases {i : Nat} {s t : State} (h : exec (.sel i) s = .next t) :
    (64 * i < s.size.toNat ∧ t = ((s.writeBlock s.hblk).writePointer (if s.checked then s.vptr else s.hptr)).advance) ∨
      (s.size.toNat ≤ 64 * i ∧ t = s.advance) := by
  by_cases hi : 64 * i < s.size.toNat
  · rw [exec_sel_in hi] at h
    exact .inl ⟨hi, (Host.Outcome.next.inj h).symm⟩
  · rw [exec_sel_out (Nat.le_of_not_lt hi)] at h
    exact .inr ⟨Nat.le_of_not_lt hi, (Host.Outcome.next.inj h).symm⟩

theorem exec_cmpb_cases {i : Nat} {s t : State} (h : exec (.cmpb i) s = .next t) :
    (64 * i < s.size.toNat ∧ s.ptr.toNat = 64 ∧ t = (s.writeHash (compressFn s.w s.h)).advance) ∨
      ((s.size.toNat ≤ 64 * i ∨ s.ptr.toNat ≠ 64) ∧ t = s.advance) := by
  by_cases hi : 64 * i < s.size.toNat ∧ s.ptr.toNat = 64
  · rw [exec_cmpb_taken hi.1 hi.2] at h
    exact .inl ⟨hi.1, hi.2, (Host.Outcome.next.inj h).symm⟩
  · have hi' : s.size.toNat ≤ 64 * i ∨ s.ptr.toNat ≠ 64 := by omega
    rw [exec_cmpb_skipped hi'] at h
    exact .inr ⟨hi', (Host.Outcome.next.inj h).symm⟩

theorem exec_ptrwrap_cases {s t : State} (h : exec .ptrwrap s = .next t) :
    (s.ptr.toNat = 64 ∧ t = (s.writePointer 0).advance) ∨ (s.ptr.toNat ≠ 64 ∧ t = s.advance) := by
  by_cases hp : s.ptr.toNat = 64
  · rw [exec_ptrwrap_full hp] at h
    exact .inl ⟨hp, (Host.Outcome.next.inj h).symm⟩
  · rw [exec_ptrwrap_other hp] at h
    exact .inr ⟨hp, (Host.Outcome.next.inj h).symm⟩

theorem exec_term_cases {s t : State} (h : exec .term s = .next t) :
    ∃ hp : s.ptr.toNat < 64, t = ((s.writeBlock (s.blk.set s.ptr.toNat 0x80)).writePointer (s.ptr + 1)).advance := by
  by_cases hp : s.ptr.toNat < 64
  · rw [exec_term_eq hp] at h
    exact ⟨hp, (Host.Outcome.next.inj h).symm⟩
  · rw [exec_term_stops (Nat.le_of_not_lt hp)] at h
    cases h

theorem exec_flush_cases {s t : State} (h : exec .flush s = .next t) :
    (56 < s.ptr.toNat ∧ t = ((s.writeHash (compressFn s.w s.h)).writePointer 0).advance) ∨
      (s.ptr.toNat ≤ 56 ∧ t = s.advance) := by
  by_cases hp : 56 < s.ptr.toNat
  · rw [exec_flush_taken hp] at h
    exact .inl ⟨hp, (Host.Outcome.next.inj h).symm⟩
  · rw [exec_flush_skipped (Nat.le_of_not_lt hp)] at h
    exact .inr ⟨Nat.le_of_not_lt hp, (Host.Outcome.next.inj h).symm⟩

theorem exec_attlen_cases {s t : State} (h : exec .attlen s = .next t) :
    (drawsHints s = true ∧ t = ((s.writeBlock (Config.drawBlock s.freeCount)).takeFree.writeLast s.blk).advance) ∨
      (drawsHints s = false ∧ t = ((s.writeBlock (paddedBlock s)).writeLast s.blk).advance) := by
  by_cases hd : drawsHints s = true
  · rw [exec_attlen_draw hd] at h
    exact .inl ⟨hd, (Host.Outcome.next.inj h).symm⟩
  · rw [Bool.not_eq_true] at hd
    rw [exec_attlen_hint hd] at h
    exact .inr ⟨hd, (Host.Outcome.next.inj h).symm⟩

end Sys2Proof.Machine
end

