-- ==== Sys2Proof/Laws/MicroProgram.lean ====
section
/-! SUPPORT. Which micro-operation stands at which index of UPROG(N) (R104). -/

namespace Sys2Proof.Machine

theorem programLength_eq (n : Nat) : programLength n = paddingStart n + 9 := rfl

/-- Offset `r` of the group of a full-capacity window. -/
theorem fetchInstr_window {n w r : Nat} (hw : w < n / 64) (hr : r < 5) :
    fetchInstr n (1 + 5 * w + r) = (windowGroup w)[r]? := by
  rw [show 1 + 5 * w + r = (5 * w + r) + 1 by omega]
  simp only [fetchInstr]
  rw [if_pos (by omega), show (5 * w + r) / 5 = w by omega, show (5 * w + r) % 5 = r by omega]

/-- Offset `r` of the partial window. -/
theorem fetchInstr_tail {n r : Nat} (hn : n % 64 ≠ 0) (hr : r < 3) :
    fetchInstr n (1 + 5 * (n / 64) + r) = (tailGroup n)[r]? := by
  rw [show 1 + 5 * (n / 64) + r = (5 * (n / 64) + r) + 1 by omega]
  simp only [fetchInstr]
  rw [if_neg (by omega), show 5 * (n / 64) + r - 5 * (n / 64) = r by omega,
    List.getElem?_append_left (by simpa [tailGroup, hn])]

/-- Offset `r` of the padding. -/
theorem fetchInstr_padding (n r : Nat) : fetchInstr n (paddingStart n + r) = paddingGroup[r]? := by
  unfold paddingStart
  by_cases hn : n % 64 = 0
  · rw [if_pos hn, show 1 + 5 * (n / 64) + 0 + r = (5 * (n / 64) + r) + 1 by omega]
    simp only [fetchInstr]
    rw [if_neg (by omega), show 5 * (n / 64) + r - 5 * (n / 64) = r by omega, tailGroup, if_pos hn]
    rfl
  · rw [if_neg hn, show 1 + 5 * (n / 64) + 3 + r = (5 * (n / 64) + (r + 3)) + 1 by omega]
    simp only [fetchInstr]
    rw [if_neg (by omega), show 5 * (n / 64) + (r + 3) - 5 * (n / 64) = r + 3 by omega, tailGroup, if_neg hn]
    rfl

/-- Every index below LEN(N) is index 0, an offset of a window's group, one of the partial window or one of the
padding. -/
theorem index_cases {n k : Nat} (h : k < programLength n) :
    k = 0 ∨ (∃ w r, w < n / 64 ∧ r < 5 ∧ k = 1 + 5 * w + r) ∨
      (n % 64 ≠ 0 ∧ ∃ r, r < 3 ∧ k = 1 + 5 * (n / 64) + r) ∨ ∃ r, r < 9 ∧ k = paddingStart n + r := by
  rw [programLength_eq] at h
  by_cases hp : paddingStart n ≤ k
  · exact .inr (.inr (.inr ⟨k - paddingStart n, by omega, by omega⟩))
  · by_cases h0 : k = 0
    · exact .inl h0
    · unfold paddingStart at hp
      by_cases hw : k - 1 < 5 * (n / 64)
      · exact .inr (.inl ⟨(k - 1) / 5, (k - 1) % 5, by omega, by omega, by omega⟩)
      · split at hp
        · omega
        · next hn => exact .inr (.inr (.inl ⟨hn, k - 1 - 5 * (n / 64), by omega, by omega⟩))

theorem fetchInstr_some {n k : Nat} (h : k < programLength n) : ∃ i, fetchInstr n k = some i := by
  rcases index_cases h with rfl | ⟨w, r, hw, hr, rfl⟩ | ⟨hn, r, hr, rfl⟩ | ⟨r, hr, rfl⟩
  · exact ⟨_, rfl⟩
  · rw [fetchInstr_window hw hr]
    exact ⟨_, List.getElem?_eq_getElem (by simpa [windowGroup])⟩
  · rw [fetchInstr_tail hn hr]
    exact ⟨_, List.getElem?_eq_getElem (by simpa [tailGroup, hn])⟩
  · rw [fetchInstr_padding]
    exact ⟨_, List.getElem?_eq_getElem (by simpa [paddingGroup])⟩

end Sys2Proof.Machine
end

