-- ==== Sys2Proof/Laws/PerInstr.lean ====
section
/-! SUPPORT. Families of statements made per instruction. -/

namespace Sys2Proof.Laws.EncodeFields

/-- The number of an instruction's word: `256 * C + OP` of a command (R71, R73), `64 * IDX + UOP` of a
micro-operation (R72, R74). -/
def number : Instr → Nat
  | .hashVar c => 256 * c.toNat + 0x01
  | .hashFull c => 256 * c.toNat + 0x02
  | .init => 0x01
  | .build n => 64 * n + 0x02
  | .vblk n => 64 * n + 0x03
  | .sel n => 64 * n + 0x04
  | .pack => 0x05
  | .cmpb n => 64 * n + 0x06
  | .ptrwrap => 0x07
  | .term => 0x08
  | .flush => 0x09
  | .attlen => 0x0A
  | .vlen => 0x0B
  | .cmpu => 0x0C
  | .digest => 0x0D

/-- A well-formed instruction's word has its fields and nothing else. -/
def Statement (i : Instr) : Prop := i.wellFormed = true → (encode i).toNat = number i

theorem indexed {op : BitVec 6} {n : Nat} (h : indexFits n = true) : (microWord op n).toNat = 64 * n + op.toNat :=
  microWord_toNat op n (by simpa [indexFits] using h)

theorem hashVar (c : Bool) : Statement (.hashVar c) := fun _ => commandWord_toNat 0x01 c

theorem hashFull (c : Bool) : Statement (.hashFull c) := fun _ => commandWord_toNat 0x02 c

theorem init : Statement .init := fun _ => microWord_toNat 0x01 0 (by decide)

theorem build (n : Nat) : Statement (.build n) := fun h => indexed h

theorem vblk (n : Nat) : Statement (.vblk n) := fun h => indexed h

theorem sel (n : Nat) : Statement (.sel n) := fun h => indexed h

theorem pack : Statement .pack := fun _ => microWord_toNat 0x05 0 (by decide)

theorem cmpb (n : Nat) : Statement (.cmpb n) := fun h => indexed h

theorem ptrwrap : Statement .ptrwrap := fun _ => microWord_toNat 0x07 0 (by decide)

theorem term : Statement .term := fun _ => microWord_toNat 0x08 0 (by decide)

theorem flush : Statement .flush := fun _ => microWord_toNat 0x09 0 (by decide)

theorem attlen : Statement .attlen := fun _ => microWord_toNat 0x0A 0 (by decide)

theorem vlen : Statement .vlen := fun _ => microWord_toNat 0x0B 0 (by decide)

theorem cmpu : Statement .cmpu := fun _ => microWord_toNat 0x0C 0 (by decide)

theorem digest : Statement .digest := fun _ => microWord_toNat 0x0D 0 (by decide)

end Sys2Proof.Laws.EncodeFields
end

