-- ==== Sys2Proof/Laws/Run.lean ====
section
/-! SUPPORT. Runs of several steps, taken apart and put together. The first three theorems are about any
machine; the others say the same of this one over `step`. -/

namespace Sys2Proof.Machine

theorem coreRun_next (m : Host.Core) {k : Nat} {s s' : m.State} (h : m.step s = .next s') :
    m.run (k + 1) s = m.run k s' := by
  show (match m.step s with | .next r => m.run k r | .fault f => .fault f | .refused f => .refused f) = _
  rw [h]

/-- The first step of a run that goes on is a next state. -/
theorem coreRun_first (m : Host.Core) {k : Nat} {s u : m.State} (h : m.run (k + 1) s = .next u) :
    ∃ t, m.step s = .next t ∧ m.run k t = .next u := by
  have h' : (match m.step s with | .next r => m.run k r | .fault f => .fault f | .refused f => .refused f) =
      Host.Outcome.next u := h
  cases hs : m.step s with
  | next t => rw [hs] at h'; exact ⟨t, rfl, h'⟩
  | fault f => rw [hs] at h'; cases h'
  | refused f => rw [hs] at h'; cases h'

theorem coreRun_add (m : Host.Core) {k n : Nat} {s t : m.State} (h : m.run k s = .next t) :
    m.run (k + n) s = m.run n t := by
  induction k generalizing s with
  | zero =>
    cases h
    rw [Nat.zero_add]
  | succ k ih =>
    obtain ⟨r, hs, hr⟩ := coreRun_first m h
    rw [Nat.succ_add, coreRun_next m hs]
    exact ih hr

theorem run_zero (s : State) : Sys2Proof.core.run 0 s = .next s := rfl

theorem run_next {k : Nat} {s s' : State} (h : step s = .next s') :
    Sys2Proof.core.run (k + 1) s = Sys2Proof.core.run k s' := coreRun_next Sys2Proof.core h

theorem run_first {k : Nat} {s u : State} (h : Sys2Proof.core.run (k + 1) s = .next u) :
    ∃ t, step s = .next t ∧ Sys2Proof.core.run k t = .next u := coreRun_first Sys2Proof.core h

theorem run_add {k n : Nat} {s t : State} (h : Sys2Proof.core.run k s = .next t) :
    Sys2Proof.core.run (k + n) s = Sys2Proof.core.run n t := coreRun_add Sys2Proof.core h

/-- One step more. -/
theorem run_snoc {k : Nat} {s t u : State} (h : Sys2Proof.core.run k s = .next t) (h' : step t = .next u) :
    Sys2Proof.core.run (k + 1) s = .next u := (run_add h).trans ((run_next h').trans (run_zero u))

/-- What every step of a run keeps, the run keeps. -/
theorem run_invariant {p : State → Prop} (hp : ∀ s t, p s → step s = .next t → p t) {k : Nat} {s t : State}
    (hs : p s) (h : Sys2Proof.core.run k s = .next t) : p t := by
  induction k generalizing s with
  | zero =>
    cases h
    exact hs
  | succ k ih =>
    obtain ⟨r, hr, h⟩ := run_first h
    exact ih (hp s r hs hr) h

end Sys2Proof.Machine
end

