-- ==== Sys2Proof/Laws/Step.lean ====
section
/-! SUPPORT. What a step can do, said once. -/

namespace Sys2Proof.Machine

/-- The sequencer keeps a block outside BUSY as it is, or performs the micro-operation UPROG(N)[UPC] (R107). -/
theorem sequencerStep_cases {run : Instr → State → Host.Outcome State Fault Refusal} {s t : State}
    (h : sequencerStep run s = .next t) :
    (s.blockState ≠ .busy ∧ t = s) ∨
      (s.blockState = .busy ∧ ∃ u i, fetchWord s.bufferSize s.upc.toNat = some u ∧ decode .uop32 u = .ok i ∧
        run i s = .next t) := by
  unfold sequencerStep at h
  split at h
  · next hb =>
    split at h
    · cases h
    · next u hu =>
      split at h
      · next i hi => exact .inr ⟨hb, u, i, hu, hi, h⟩
      · cases h
  · next hb => exact .inl ⟨hb, (Host.Outcome.next.inj h).symm⟩

/-- A word written to CMD runs its command, or is an illegal command (R26, R75). -/
theorem issueWord_cases {run : Instr → State → Host.Outcome State Fault Refusal} {w : Word} {s t : State}
    (h : issueWord run w s = .next t) :
    (∃ i, decode .cmd32 w = .ok i ∧ run i s = .next t) ∨
      ((∃ e, decode .cmd32 w = .error e) ∧ t = issueGate s fun r => r.reject .illegalCmd w) := by
  unfold issueWord at h
  split at h
  · next i hi => exact .inl ⟨i, hi, h⟩
  · next e he => exact .inr ⟨⟨e, he⟩, (Host.Outcome.next.inj h).symm⟩

/-- A write of a read-only register is a write of nothing; a write of CMD issues the word (R24, R26). -/
theorem writePort_cases {run : Instr → State → Host.Outcome State Fault Refusal} {r : HostReg} {v : Word}
    {s t : State} (h : writePort run r v s = .next t) : t = s ∨ (r = .cmd ∧ issueWord run v s = .next t) := by
  cases r
  case cmd => exact .inr ⟨rfl, h⟩
  all_goals exact .inl (Host.Outcome.next.inj h).symm

/-- A host write of the buffer (R50, R265). -/
theorem writeBufferPort_cases {k : Nat} {b : Byte} {s t : State} (h : writeBufferPort k b s = .next t) :
    s.blockState ≠ .busy ∧ k < s.bufferSize ∧ t = s.writeBuffer k b := by
  unfold writeBufferPort at h
  split at h
  · cases h
  · next hb =>
    split at h
    · next hk => exact ⟨hb, hk, (Host.Outcome.next.inj h).symm⟩
    · cases h

/-- A host read changes nothing in the block (R265). -/
theorem readPort_cases {r : HostReg} {s t : State} (h : readPort r s = .next t) : t = s := by
  unfold readPort at h
  split at h
  · exact (Host.Outcome.next.inj h).symm
  · cases h

/-- Every next state of a step: the sequencer's, or that of the host's next action. -/
theorem step_cases {s t : State} (h : step s = .next t) :
    (∃ as, sequencerStep exec (s.withActions as) = .next t) ∨ (∃ as, t = s.withActions as) ∨
      (∃ as, t = (s.withActions as).resetBlock) ∨ (∃ as v, t = (s.withActions as).driveMsgSize v) ∨
      (∃ as k b, s.blockState ≠ .busy ∧ k < s.bufferSize ∧ t = (s.withActions as).writeBuffer k b) ∨
      (∃ as w, issueWord exec w (s.withActions as) = .next t) := by
  have hself : s.withActions s.hostActions = s := rfl
  unfold step machineStep at h
  split at h
  · next ha => exact .inl ⟨s.hostActions, h⟩
  · next as ha => exact .inl ⟨as, h⟩
  · next as ha =>
    unfold waitStep at h
    split at h
    · exact .inl ⟨s.hostActions, h⟩
    · exact .inr (.inl ⟨as, (Host.Outcome.next.inj h).symm⟩)
  · next as ha => exact .inr (.inr (.inl ⟨as, (Host.Outcome.next.inj h).symm⟩))
  · next v as ha => exact .inr (.inr (.inr (.inl ⟨as, v, (Host.Outcome.next.inj h).symm⟩)))
  · next k b as ha =>
    obtain ⟨hb, hk, rfl⟩ := writeBufferPort_cases h
    exact .inr (.inr (.inr (.inr (.inl ⟨as, k, b, hb, hk, rfl⟩))))
  · next r v as ha =>
    rcases writePort_cases h with rfl | ⟨-, hw⟩
    · exact .inr (.inl ⟨as, rfl⟩)
    · exact .inr (.inr (.inr (.inr (.inr ⟨as, v, hw⟩))))
  · next r as ha => exact .inr (.inl ⟨as, readPort_cases h⟩)

end Sys2Proof.Machine
end

