-- ==== Sys2Proof/Tests/Slice0.lean ====
section
/-! SUPPORT. Tests from the encodings and the vectors of spec/. -/

namespace Sys2Proof.Tests

open Sys2Proof.Machine

/-! Helpers. -/

/-- The next state of an outcome. -/
def after : Host.Outcome State Fault Refusal → Option State
  | .next s => some s
  | .fault _ => none
  | .refused _ => none

def faultOf : Host.Outcome State Fault Refusal → Option Fault
  | .next _ => none
  | .fault f => some f
  | .refused _ => none

def refusalOf : Host.Outcome State Fault Refusal → Option Refusal
  | .next _ => none
  | .fault _ => none
  | .refused r => some r

/-- A block of 64 bytes: these, then zeros. -/
def block (bytes : List Byte) : Vector Byte 64 := Vector.ofFn fun j => bytes.getD j.val 0

/-- The bytes "abc" at indexes 0 to 2. -/
def abcCells : List Host.Cell := [(0, 0x61), (1, 0x62), (2, 0x63)]

/-- Idle, `N = 64`, "abc" and zeros in the buffer, MSG_SIZE 3 (V81 to V86). -/
def idleAbc : State := { State.reset with capacity := 64, buffer := abcCells, msgSize := 3 }

/-- The same block with the command HASH_VAR just accepted (V83). -/
def busyAbc (c : Bool) : State :=
  { idleAbc with blockState := .busy, size := 3, checked := c, mode := c }

/-- `busyAbc` with the hint of window 0. -/
def hintedAbc (c : Bool) : State :=
  { busyAbc c with upc := 2, hblk := block [0x61, 0x62, 0x63], hptr := 3, h := initialHash }

/-- The block of "abc" after TERM (V66). -/
def terminatedAbc : Vector Byte 64 := block [0x61, 0x62, 0x63, 0x80]

/-- The block of "abc" with its length (V66). -/
def finalAbc : Vector Byte 64 := terminatedAbc.set 63 0x18

/-- `busyAbc` before VLEN (V66). -/
def encodedAbc (c : Bool) : State :=
  { busyAbc c with upc := 11, blk := finalAbc, last := terminatedAbc, ptr := 4, h := initialHash }

/-! Ill-formed terms: an index that does not fit IDX. -/

theorem test_wellFormed_build : (Instr.build (2 ^ 26)).wellFormed = false ∧ (Instr.build (2 ^ 26 - 1)).wellFormed = true := by
  decide

theorem test_wellFormed_vblk : (Instr.vblk (2 ^ 26)).wellFormed = false ∧ (Instr.vblk (2 ^ 26 - 1)).wellFormed = true := by
  decide

theorem test_wellFormed_sel : (Instr.sel (2 ^ 26)).wellFormed = false ∧ (Instr.sel (2 ^ 26 - 1)).wellFormed = true := by
  decide

theorem test_wellFormed_cmpb : (Instr.cmpb (2 ^ 26)).wellFormed = false ∧ (Instr.cmpb (2 ^ 26 - 1)).wellFormed = true := by
  decide

/-! Decoding, the words written out from R71 to R74: RSV, C, OP of a command; IDX, UOP of a micro-word. -/

/-- V40, V41. -/
theorem test_decode_hashVar :
    (decode .cmd32 0b00000000000000000000000000000001).toOption = some (.hashVar false) ∧
    (decode .cmd32 0b00000000000000000000000100000001).toOption = some (.hashVar true) := by decide

/-- V42, V43. -/
theorem test_decode_hashFull :
    (decode .cmd32 0b00000000000000000000000000000010).toOption = some (.hashFull false) ∧
    (decode .cmd32 0b00000000000000000000000100000010).toOption = some (.hashFull true) := by decide

theorem test_decode_init : (decode .uop32 0b00000000000000000000000000000001).toOption = some .init := by decide

/-- V48, and all ones in IDX. -/
theorem test_decode_build :
    (decode .uop32 0b00000000000000000000000011000010).toOption = some (.build 3) ∧
    (decode .uop32 0b11111111111111111111111111000010).toOption = some (.build 67108863) := by decide

/-- P4: the last window of `UPROG(512)`. -/
theorem test_decode_vblk : (decode .uop32 0b00000000000000000000000111000011).toOption = some (.vblk 7) := by decide

theorem test_decode_sel :
    (decode .uop32 0b00000000000000000000000000000100).toOption = some (.sel 0) ∧
    (decode .uop32 0b10000000000000000000000000000100).toOption = some (.sel 33554432) := by decide

theorem test_decode_pack : (decode .uop32 0b00000000000000000000000000000101).toOption = some .pack := by decide

/-- V49. -/
theorem test_decode_cmpb : (decode .uop32 0b00000000000000000000000111000110).toOption = some (.cmpb 7) := by decide

theorem test_decode_ptrwrap : (decode .uop32 0b00000000000000000000000000000111).toOption = some .ptrwrap := by decide

theorem test_decode_term : (decode .uop32 0b00000000000000000000000000001000).toOption = some .term := by decide

theorem test_decode_flush : (decode .uop32 0b00000000000000000000000000001001).toOption = some .flush := by decide

theorem test_decode_attlen : (decode .uop32 0b00000000000000000000000000001010).toOption = some .attlen := by decide

theorem test_decode_vlen : (decode .uop32 0b00000000000000000000000000001011).toOption = some .vlen := by decide

theorem test_decode_cmpu : (decode .uop32 0b00000000000000000000000000001100).toOption = some .cmpu := by decide

theorem test_decode_digest : (decode .uop32 0b00000000000000000000000000001101).toOption = some .digest := by decide

/-- V44 to V47: illegal command words. -/
theorem test_decode_illegalCommands :
    (decode .cmd32 0x00000003).toOption = none ∧ (decode .cmd32 0x00000201).toOption = none ∧
    (decode .cmd32 0x00000100).toOption = none ∧ (decode .cmd32 0x800000FF).toOption = none := by decide

/-- V50, V51, and UOP 0: reserved micro-words. -/
theorem test_decode_reservedMicroWords :
    (decode .uop32 0x00000045).toOption = none ∧ (decode .uop32 0x0000000E).toOption = none ∧
    (decode .uop32 0x00000000).toOption = none := by decide

/-- P1 and P2: the micro-words of `UPROG(0)` and `UPROG(1)`. -/
theorem test_uprog_small :
    uprog 0 = [0x01, 0x07, 0x08, 0x05, 0x09, 0x0a, 0x0b, 0x05, 0x0c, 0x0d] ∧
    uprog 1 = [0x01, 0x02, 0x03, 0x04, 0x07, 0x08, 0x05, 0x09, 0x0a, 0x0b, 0x05, 0x0c, 0x0d] := by decide

/-! Commands (V81 to V84). -/

/-- V83 and R101: acceptance. -/
theorem test_hashVar_accepted :
    (after (exec (.hashVar true) idleAbc)).map (fun t => (statusWord t, t.size, t.checked, t.upc)) =
      some (0x101, 3, true, 0) := by decide

/-- V81: one byte too many. -/
theorem test_hashVar_rejected :
    (after (exec (.hashVar true) { idleAbc with msgSize := 65 })).map (fun t => (statusWord t, t.info)) =
      some (0x94, 0) := by decide

/-- V86: SIZE is `N`. -/
theorem test_hashFull_accepted :
    (after (exec (.hashFull false) { idleAbc with msgSize := 65 })).map (fun t => (statusWord t, t.size)) =
      some (0x1, 64) := by decide

/-- V84: a command while BUSY. -/
theorem test_hashFull_busy :
    (after (exec (.hashFull true) (busyAbc true))).map (fun t => (statusWord t, t.upc)) = some (0x109, 0) := by decide

/-- V82: the word in INFO. -/
theorem test_illegalCommand :
    (after (step { idleAbc with hostActions := [.writeReg .cmd 0x03] })).map (fun t => (statusWord t, t.info)) =
      some (0x84, 3) := by decide

/-! Micro-operations. -/

/-- V76. -/
theorem test_init :
    (after (exec .init { busyAbc true with blk := terminatedAbc, ptr := 64 })).map
      (fun t => (t.h[0], t.h[7], t.blk, t.ptr)) = some (0x6a09e667, 0x5be0cd19, Vector.replicate 64 0, 0) := by decide

theorem test_build_tail :
    (after (exec (.build 0) (busyAbc true))).map (fun t => (t.hblk, t.hptr, t.upc)) =
      some (block [0x61, 0x62, 0x63], 3, 1) := by decide

/-- A window past the message (V62). -/
theorem test_build_past :
    (after (exec (.build 1) { busyAbc true with capacity := 100, hblk := terminatedAbc, hptr := 9 })).map
      (fun t => (t.hblk, t.hptr)) = some (Vector.replicate 64 0, 0) := by decide

/-- V30: byte 3 is slack and holds 1. -/
theorem test_vblk_slack :
    (after (exec (.vblk 0) { hintedAbc true with capacity := 4, buffer := abcCells ++ [(3, 1)] })).map
      (fun t => (statusWord t, t.info, t.upc)) = some (0x133, 3, 2) := by decide

/-- V34, in a block whose hint holds the change. -/
theorem test_vblk_mismatch :
    (after (exec (.vblk 0) { hintedAbc true with hblk := block [0x61, 0x63, 0x63] })).map
      (fun t => (statusWord t, t.info)) = some (0x113, 1) := by decide

/-- V36: checked mode takes VPTR. -/
theorem test_sel_checked :
    (after (exec (.sel 0) { hintedAbc true with hptr := 17, vptr := 3 })).map (fun t => (t.blk, t.ptr)) =
      some (block [0x61, 0x62, 0x63], 3) := by decide

/-- Unchecked mode takes HPTR; a window past the message changes nothing. -/
theorem test_sel_unchecked :
    (after (exec (.sel 0) { hintedAbc false with hptr := 17, vptr := 3 })).map (·.ptr) = some 17 ∧
    (after (exec (.sel 1) { hintedAbc false with hptr := 17, ptr := 5 })).map (·.ptr) = some 5 := by decide

/-- V71. -/
theorem test_pack :
    (after (exec .pack (encodedAbc true))).map (·.w) =
      some #v[0x61626380, 0, 0, 0, 0, 0, 0, 0, 0, 0, 0, 0, 0, 0, 0, 0x18] := by decide

/-- V77, sizes 3 and 64: PTR is not 64; the window is past the message. -/
theorem test_cmpb_skipped :
    (after (exec (.cmpb 0) { hintedAbc true with ptr := 3 })).map (·.h) = some initialHash ∧
    (after (exec (.cmpb 1) { hintedAbc true with ptr := 64, size := 64 })).map (·.h) = some initialHash := by decide

/-- V12 after CMPB 0: 64 times "a" compressed. -/
theorem test_cmpb_taken :
    (after (exec (.cmpb 0) { hintedAbc true with ptr := 64, size := 64, w := Vector.replicate 16 0x61616161 })).map
      (·.h) = some #v[0xdf5bb81c, 0xe81e0626, 0xfb45a894, 0x4fd40f31, 0xb25e6816, 0xd6d499c1, 0xab904929, 0x00635e66] := by
  rw [exec_cmpb_taken (by decide) (by decide), compressFn_eq]
  decide +kernel

/-- V12, V13: PTR 64 wraps, 63 stays. -/
theorem test_ptrwrap :
    (after (exec .ptrwrap { busyAbc true with ptr := 64 })).map (·.ptr) = some 0 ∧
    (after (exec .ptrwrap { busyAbc true with ptr := 63 })).map (·.ptr) = some 63 := by decide

/-- V66. -/
theorem test_term :
    (after (exec .term { busyAbc true with blk := block [0x61, 0x62, 0x63], ptr := 3 })).map
      (fun t => (t.blk, t.ptr)) = some (terminatedAbc, 4) := by decide

/-- V13: byte 63, and PTR becomes 64. -/
theorem test_term_last :
    (after (exec .term { busyAbc true with ptr := 63 })).map (fun t => (t.blk[63], t.ptr)) = some (0x80, 64) := by
  decide

/-- V10: 56 is not above 56. -/
theorem test_flush_skipped :
    (after (exec .flush { hintedAbc true with ptr := 56 })).map (fun t => (t.h, t.ptr)) = some (initialHash, 56) := by
  decide

/-- V11: the block of 56 times "a" and the terminator. -/
theorem test_flush_taken :
    (after (exec .flush { hintedAbc true with
        ptr := 57, w := ((Vector.replicate 16 (0x61616161 : Word)).set 14 0x80000000).set 15 0 })).map
      (fun t => (t.h, t.ptr)) = some
        (#v[0x97539b85, 0x1c7ee50b, 0x0b226ec5, 0x4b1f3dbb, 0xe4f116c6, 0xe49b2dd0, 0x31444d1e, 0x25354f3a], 0) := by
  rw [exec_flush_taken (by decide), compressFn_eq]
  decide +kernel

/-- V66, with bytes past the terminator to be zeroed. -/
theorem test_attlen :
    (after (exec .attlen { encodedAbc true with blk := terminatedAbc.set 55 0xff, last := Vector.replicate 64 0 })).map
      (fun t => (t.blk, t.last)) = some (finalAbc, terminatedAbc.set 55 0xff) := by decide

/-- V65: SIZE of 2^32 - 1. -/
theorem test_attlen_largest :
    (after (exec .attlen { encodedAbc true with size := 0xffffffff })).map
      (fun t => (t.blk[58], t.blk[59], t.blk[60], t.blk[62], t.blk[63])) = some (0, 7, 0xff, 0xff, 0xf8) := by decide

/-- V67, V68. -/
theorem test_vlen_trailer_prefix :
    (after (exec .vlen { encodedAbc true with blk := finalAbc.set 63 0x19 })).map
      (fun t => (statusWord t, t.info, t.upc)) = some (0x143, 56, 11) ∧
    (after (exec .vlen { encodedAbc true with blk := finalAbc.set 1 0x63 })).map
      (fun t => (statusWord t, t.info)) = some (0x153, 1) := by decide

/-- V69, V70: the terminator belongs to the prefix; a byte of the fill. -/
theorem test_vlen_terminator_fill :
    (after (exec .vlen { encodedAbc true with blk := finalAbc.set 3 0 })).map
      (fun t => (statusWord t, t.info)) = some (0x153, 3) ∧
    (after (exec .vlen { encodedAbc true with blk := finalAbc.set 20 1 })).map
      (fun t => (statusWord t, t.info)) = some (0x163, 20) := by decide

/-- V78. -/
theorem test_cmpu :
    (after (exec .cmpu { hintedAbc true with w := (Vector.replicate 16 (0 : Word)).set 0 0x80000000 })).map (·.h) =
      some #v[0xe3b0c442, 0x98fc1c14, 0x9afbf4c8, 0x996fb924, 0x27ae41e4, 0x649b934c, 0xa495991b, 0x7852b855] := by
  rw [exec_cmpu_eq, compressFn_eq]
  decide +kernel

/-- V80. -/
theorem test_digest :
    (after (exec .digest { busyAbc true with
        h := #v[0xba7816bf, 0x8f01cfea, 0x414140de, 0x5dae2223, 0xb00361a3, 0x96177a9c, 0xb410ff61, 0xf20015ad] })).map
      (fun t => (t.digest[0], t.digest[3], t.digest[28], t.digest[31], statusWord t)) =
        some (0xba, 0xbf, 0xf2, 0xad, 0x102) := by decide

/-- R201: `K[t]` is the first 32 bits of the fractional part of the cube root of the `t`-th prime; the integer parts
of the roots of the primes up to 311 are 1 to 6. -/
theorem test_roundConstants_are_cube_roots :
    let primes := (List.range 312).filter fun p => decide (1 < p) && (List.range p).all fun d => decide (d < 2 ∨ p % d ≠ 0)
    primes.length = 64 ∧ roundConstants.length = 64 ∧
    (primes.zip roundConstants).all (fun (p, k) => (List.range 7).any fun c =>
      let r := c * 2 ^ 32 + k.toNat
      decide (r ^ 3 ≤ p * 2 ^ 96 ∧ p * 2 ^ 96 < (r + 1) ^ 3)) = true := by
  decide +kernel

/-! Memory and the host's side. -/

theorem test_memory_canonical :
    Memory.wf abcCells = true ∧ Memory.wf [(1, 0x62), (0, 0x61)] = false ∧ Memory.wf [(0, 0)] = false ∧
    Memory.store abcCells 1 0 = [(0, 0x61), (2, 0x63)] := by decide

/-- I7, log entry 9. -/
theorem test_write_while_busy :
    refusalOf (step { busyAbc true with hostActions := [.writeBuffer 3 1] }) = some .bufferWriteWhileBusy := by decide

/-- I4, log entry 10. -/
theorem test_read_of_digest_while_idle :
    faultOf (step { idleAbc with hostActions := [.readReg (.digestByte 0)] }) = some .digestUnspecified := by decide

/-- The host's placing runs a table word as the first instruction after reset: TERM, and HASH_FULL. -/
theorem test_withFetchWord :
    (after (step (State.reset.withFetchWord 32 0x08))).map (fun t => (t.ptr, t.blk[0], t.upc)) = some (1, 0x80, 6) ∧
    (after (step (State.reset.withFetchWord 32 0x102))).map (fun t => (t.blockState, t.checked)) =
      some (.busy, true) := by decide

end Sys2Proof.Tests
end

