-- ==== Sys2Proof/Tests/Witness.lean ====
section
/-! SUPPORT. For every statement of Certificates/Slice0/Obligations.lean that has hypotheses, states and operands
that meet them together; each witness is named after its statement. -/

namespace Sys2Proof.Tests

open Sys2Proof.Machine

/-- An outcome whose next state passes a test. -/
theorem reaches {o : Host.Outcome State Fault Refusal} {p : State → Bool} (h : (after o).any p = true) :
    ∃ t, o = .next t ∧ p t = true := by
  cases o with
  | next s => exact ⟨s, rfl, h⟩
  | fault f => cases h
  | refused r => cases h

theorem passes {s : State} {i : Nat} (h : windowVerdict s i = none) : ∀ j, WindowBytePasses s i j :=
  (windowVerdict_none_iff s i).mp h

theorem fails {s : State} {i : Nat} {j : Fin 64} (h : windowTest s i j ≠ none) : ¬ WindowBytePasses s i j :=
  fun hp => h ((windowTest_none_iff s i j).mpr hp)

theorem passes_before {s : State} {i : Nat} {j : Fin 64} (h : ∀ j' : Fin 64, j' < j → windowTest s i j' = none) :
    ∀ j' : Fin 64, j' < j → WindowBytePasses s i j' := fun j' hj => (windowTest_none_iff s i j').mp (h j' hj)

/-- HINT_SOURCE = oracle. -/
def oracleAbc (c : Bool) : State := { busyAbc c with hintSource := .oracle }

/-- Aborted (V30). -/
def abortedAbc : State :=
  { busyAbc true with blockState := .aborted, cause := .slackNonzero, info := 3, upc := 2 }

def doneAbc : State :=
  { busyAbc true with blockState := .done, upc := 15, h := initialHash, digest := digestBytes initialHash }

/-- `N = 4`, byte 3 holds 1 (V30). -/
def slackAbc : State := { busyAbc true with capacity := 4, buffer := abcCells ++ [(3, 1)] }

/-- `N = 0` (P1) and `N = 1` with an empty message, both just accepted. -/
def emptyCommand (n : Word) (c : Bool) : State :=
  { busyAbc c with capacity := n, buffer := [], size := 0 }

theorem test_witness_EncodedInstructionDecodesToItself :
    (Instr.hashVar true).wellFormed = true ∧ (Instr.sel (2 ^ 26 - 1)).wellFormed = true := by decide

theorem test_witness_DecodedInstructionEncodesToItsWord :
    decode .uop32 0x000000C2 = .ok (.build 3) ∧ decode .cmd32 0x00000102 = .ok (.hashFull true) := ⟨rfl, rfl⟩

theorem test_witness_ReservedMicroWordsAreNeverFetched :
    0x0d ∈ uprog (0 : Word).toNat ∧ 0x03 ∈ uprog (1 : Word).toNat := by decide

theorem test_witness_StepRunsTheDecodedInstruction_command :
    ({ idleAbc with hostActions := [.writeReg .cmd 0x101] } : State).hostActions = .writeReg .cmd 0x101 :: [] ∧
    decode .cmd32 0x101 = .ok (.hashVar true) := ⟨rfl, rfl⟩

theorem test_witness_StepRunsTheDecodedInstruction_micro :
    (hintedAbc true).blockState = .busy ∧
    (uprog (hintedAbc true).bufferSize)[(hintedAbc true).upc.toNat]? = some 3 ∧
    decode .uop32 3 = .ok (.vblk 0) ∧ (hintedAbc true).hostActions = [] ∧
    ({ hintedAbc true with hostActions := [.idle] } : State).hostActions = .idle :: [] ∧
    ({ hintedAbc true with hostActions := [.wait] } : State).hostActions = .wait :: [] :=
  ⟨rfl, by decide, rfl, rfl, rfl, rfl⟩

theorem test_witness_StepRunsTheDecodedInstruction_outsideBusy :
    idleAbc.blockState ≠ .busy ∧ idleAbc.hostActions = [] ∧ abortedAbc.blockState ≠ .busy ∧
    ({ abortedAbc with hostActions := [.idle] } : State).hostActions = .idle :: [] ∧
    ({ idleAbc with hostActions := [.wait] } : State).hostActions = .wait :: [] := by decide

theorem test_witness_ResetClearsStatusAndStopsTheSequencer :
    ({ abortedAbc with hostActions := [.reset] } : State).hostActions = .reset :: [] ∧
    ({ busyAbc true with hostActions := [.reset, .wait] } : State).hostActions = .reset :: [.wait] := by decide

/-- The second clause: an aborted block and a step that is no RESET. -/
theorem test_witness_ResetClearsStatusAndStopsTheSequencer_aborted :
    abortedAbc.blockState = .aborted ∧ (∀ rest, abortedAbc.hostActions ≠ .reset :: rest) ∧
    ∃ t, step abortedAbc = .next t := ⟨rfl, fun rest h => by simp [abortedAbc, busyAbc, idleAbc, State.reset] at h, _, rfl⟩

theorem test_witness_AcceptanceLatchesTheCommand :
    AcceptsCommands { idleAbc with msgSize := 64 } ∧
    ({ idleAbc with msgSize := 64 } : State).msgSize.toNat ≤ ({ idleAbc with msgSize := 64 } : State).bufferSize ∧
    AcceptsCommands doneAbc := by decide

theorem test_witness_SizeAboveCapacityIsRejected :
    AcceptsCommands { idleAbc with msgSize := 65 } ∧
    ({ idleAbc with msgSize := 65 } : State).bufferSize < ({ idleAbc with msgSize := 65 } : State).msgSize.toNat := by
  decide

/-- An OP that is reserved (V44, V46), and RSV with a legal OP (V45). -/
theorem test_witness_IllegalCommandIsRejected :
    AcceptsCommands idleAbc ∧ ((0x03 : Word).toNat % 256 ≠ 1 ∧ (0x03 : Word).toNat % 256 ≠ 2) ∧
    ((0x100 : Word).toNat % 256 ≠ 1 ∧ (0x100 : Word).toNat % 256 ≠ 2) ∧ (0x201 : Word).toNat / 512 ≠ 0 ∧
    ({ idleAbc with hostActions := [.writeReg .cmd 0x201] } : State).hostActions = .writeReg .cmd 0x201 :: [] := by
  decide

theorem test_witness_CommandWhileBusyOnlySetsOvr :
    (busyAbc true).blockState = .busy ∧
    ({ busyAbc true with hostActions := [.writeReg .cmd 0x102] } : State).hostActions =
      .writeReg .cmd 0x102 :: [] := by decide

theorem test_witness_AbortIsStickyUntilReset :
    abortedAbc.blockState = .aborted ∧
    (∀ rest, ({ abortedAbc with hostActions := [.writeReg .cmd 1] } : State).hostActions ≠ .reset :: rest) ∧
    ∃ t, step { abortedAbc with hostActions := [.writeReg .cmd 1] } = .next t ∧ t.info = 3 :=
  ⟨rfl, fun rest h => by simp at h, _, rfl, rfl⟩

/-- The second clause: a legal word and an illegal one. -/
theorem test_witness_AbortIsStickyUntilReset_command :
    abortedAbc.blockState = .aborted ∧
    ({ abortedAbc with hostActions := [.writeReg .cmd 0x101] } : State).hostActions = .writeReg .cmd 0x101 :: [] ∧
    ({ abortedAbc with hostActions := [.writeReg .cmd 0x03] } : State).hostActions = .writeReg .cmd 0x03 :: [] :=
  ⟨rfl, rfl, rfl⟩

theorem test_witness_BuildCopiesTheWindow :
    (busyAbc true).size.toNat ≤ (busyAbc true).bufferSize ∧ (busyAbc true).hintSource = .builder ∧
    (oracleAbc false).size.toNat ≤ (oracleAbc false).bufferSize ∧ (oracleAbc false).checked = false ∧
    64 * 0 + (2 : Fin 64).val < (busyAbc true).size.toNat ∧ (busyAbc true).size.toNat ≤ 64 * 0 + (3 : Fin 64).val := by
  decide

theorem test_witness_DrawnHintsTouchOnlyTheHint :
    (oracleAbc true).hintSource = .oracle ∧ (oracleAbc true).checked = true ∧
    (oracleAbc true).size.toNat ≤ (oracleAbc true).bufferSize := by decide

/-- The window of "abc", and one past the message. -/
theorem test_witness_VblkVerifiesAGoodWindow :
    (hintedAbc true).checked = true ∧ (hintedAbc true).size.toNat ≤ (hintedAbc true).bufferSize ∧
    (∀ j, WindowBytePasses (hintedAbc true) 0 j) ∧ (∀ j, WindowBytePasses { busyAbc true with capacity := 100 } 1 j) :=
  ⟨rfl, by decide, passes (by decide), passes (by decide)⟩

theorem test_witness_CompletedVblkEstablishesTheWindow :
    (hintedAbc true).checked = true ∧ (hintedAbc true).blockState ≠ .aborted ∧
    ∃ t, exec (.vblk 0) (hintedAbc true) = .next t ∧ decide (t.blockState ≠ .aborted) = true :=
  ⟨rfl, by decide, reaches (by decide)⟩

theorem test_witness_VblkReportsTheFirstFailure_mismatch :
    let s : State := { hintedAbc true with hblk := block [0x61, 0x62, 0x00] }
    s.checked = true ∧ s.size.toNat ≤ s.bufferSize ∧ (∀ j' : Fin 64, j' < 2 → WindowBytePasses s 0 j') ∧
      ¬ WindowBytePasses s 0 2 :=
  ⟨rfl, by decide, passes_before (by decide), fails (by decide)⟩

theorem test_witness_VblkReportsTheFirstFailure_pad :
    let s : State := { hintedAbc true with hblk := block [0x61, 0x62, 0x63, 0x01] }
    s.checked = true ∧ s.size.toNat ≤ s.bufferSize ∧ (∀ j' : Fin 64, j' < 3 → WindowBytePasses s 0 j') ∧
      ¬ WindowBytePasses s 0 3 :=
  ⟨rfl, by decide, passes_before (by decide), fails (by decide)⟩

/-- The last byte of the buffer and of the window. -/
theorem test_witness_VblkReportsTheFirstFailure_slack :
    let s : State := { hintedAbc true with buffer := abcCells ++ [(63, 1)] }
    s.checked = true ∧ s.size.toNat ≤ s.bufferSize ∧ (∀ j' : Fin 64, j' < 63 → WindowBytePasses s 0 j') ∧
      ¬ WindowBytePasses s 0 63 :=
  ⟨rfl, by decide, passes_before (by decide), fails (by decide)⟩

theorem test_witness_UncheckedVerifiersDoNothing : (hintedAbc false).checked = false := rfl

/-- Where the clauses meet: SIZE 64, windows 0 and 1. -/
theorem test_witness_SelTakesWindowsOfTheMessage :
    let s : State := { hintedAbc true with size := 64, vptr := 64 }
    64 * 0 < s.size.toNat ∧ s.checked = true ∧ s.size.toNat ≤ 64 * 1 ∧ (hintedAbc false).checked = false := by decide

theorem test_witness_CmpbCompressesFullWindows :
    let s : State := { hintedAbc true with size := 64, ptr := 64 }
    (64 * 0 < s.size.toNat ∧ s.ptr = 64) ∧ s.size.toNat ≤ 64 * 1 ∧ (hintedAbc true).ptr ≠ 64 := by decide

theorem test_witness_FlushCompressesWhenTheLengthDoesNotFit :
    56 < (57 : BitVec 7).toNat ∧ (56 : BitVec 7).toNat ≤ 56 := by decide

theorem test_witness_TermWritesTheTerminator :
    ({ busyAbc true with ptr := 63 } : State).ptr.toNat ≤ 63 ∧ (busyAbc true).ptr.toNat ≤ 63 := by decide

theorem test_witness_PointerPastTheBlockStops :
    let s : State := { busyAbc true with ptr := 65, blk := Vector.replicate 64 0, last := Vector.replicate 64 0, size := 0 }
    64 ≤ (64 : BitVec 7).toNat ∧ 64 < s.ptr.toNat ∧ s.checked = true ∧ s.blk = s.last ∧
      (lengthField s.blk).toNat = 8 * s.size.toNat := by decide

theorem test_witness_AttlenWritesTheLength :
    (encodedAbc true).hintSource = .builder ∧ (oracleAbc false).checked = false ∧
    (encodedAbc true).size.toNat < 2 ^ 61 ∧ (3 : Fin 64).val < (encodedAbc true).ptr.toNat ∧
    (encodedAbc true).ptr.toNat ≤ (4 : Fin 64).val ∧ (55 : Fin 64).val < 56 := by decide

theorem test_witness_VlenVerifiesAGoodBlock :
    let s : State := encodedAbc true
    s.checked = true ∧ s.ptr.toNat ≤ 64 ∧ (lengthField s.blk).toNat = s.size.toNat * 8 ∧
      (∀ j : Fin 64, j.val < s.ptr.toNat → s.blk[j] = s.last[j]) ∧
      (∀ j : Fin 64, s.ptr.toNat ≤ j.val → j.val < 56 → s.blk[j] = 0) := by decide

/-- PTR 0, as FLUSH leaves it. -/
theorem test_witness_VlenVerifiesAGoodBlock_flushed :
    let s : State := { encodedAbc true with ptr := 0, blk := (Vector.replicate 64 (0 : Byte)).set 63 0x18 }
    s.checked = true ∧ s.ptr.toNat ≤ 64 ∧ (lengthField s.blk).toNat = s.size.toNat * 8 ∧
      (∀ j : Fin 64, j.val < s.ptr.toNat → s.blk[j] = s.last[j]) ∧
      (∀ j : Fin 64, s.ptr.toNat ≤ j.val → j.val < 56 → s.blk[j] = 0) := by decide

theorem test_witness_CompletedVlenFixesTheBlock :
    (encodedAbc true).checked = true ∧ (encodedAbc true).blockState ≠ .aborted ∧ (encodedAbc true).ptr.toNat ≤ 56 ∧
    (encodedAbc true).size.toNat < 2 ^ 61 ∧
    ∃ t, exec .vlen (encodedAbc true) = .next t ∧ decide (t.blockState ≠ .aborted) = true :=
  ⟨rfl, by decide, by decide, by decide, reaches (by decide)⟩

theorem test_witness_VlenReportsTheFirstFailure_trailer :
    let s : State := { encodedAbc true with blk := finalAbc.set 63 0x19 }
    s.checked = true ∧ (lengthField s.blk).toNat ≠ s.size.toNat * 8 := by decide

/-- The last byte below PTR. -/
theorem test_witness_VlenReportsTheFirstFailure_prefix :
    let s : State := { encodedAbc true with blk := finalAbc.set 3 0 }
    s.checked = true ∧ (lengthField s.blk).toNat = s.size.toNat * 8 ∧ (3 : Fin 64).val < s.ptr.toNat ∧
      s.blk[(3 : Fin 64)] ≠ s.last[(3 : Fin 64)] ∧ (∀ j' : Fin 64, j' < 3 → s.blk[j'] = s.last[j']) := by decide

/-- The first byte at PTR, and the last below 56. -/
theorem test_witness_VlenReportsTheFirstFailure_fill :
    let s : State := { encodedAbc true with blk := finalAbc.set 4 1 }
    let s' : State := { encodedAbc true with blk := finalAbc.set 55 1 }
    s.checked = true ∧ (lengthField s.blk).toNat = s.size.toNat * 8 ∧ s.ptr.toNat ≤ (4 : Fin 64).val ∧
      s.blk[(4 : Fin 64)] ≠ 0 ∧ (∀ j' : Fin 64, j'.val < s.ptr.toNat → s.blk[j'] = s.last[j']) ∧
      (lengthField s'.blk).toNat = s'.size.toNat * 8 ∧ s'.blk[(55 : Fin 64)] ≠ 0 ∧
      (∀ j' : Fin 64, s'.ptr.toNat ≤ j'.val → j' < 55 → s'.blk[j'] = 0) := by decide

/-- The block of "abc", and the first and last index of each clause. -/
theorem test_witness_CompressionFollowsTheReference :
    (packWords finalAbc) = #v[0x61626380, 0, 0, 0, 0, 0, 0, 0, 0, 0, 0, 0, 0, 0, 0, 0x18] ∧
    (15 : Nat) < 16 ∧ 16 ≤ (16 : Nat) ∧ (63 : Nat) < 64 := by decide

/-- No block before, and one. -/
theorem test_witness_DigestFunctionIsSha256 :
    ([] : List Byte).length % 64 = 0 ∧ finalAbc.toList.length % 64 = 0 := by decide

theorem test_witness_AbortsArePreciseAndChecked :
    (∃ t, exec (.vblk 0) { slackAbc with hblk := block [0x61, 0x62, 0x63] } = .next t ∧
      decide (t.blockState = .aborted) = true) ∧ slackAbc.blockState ≠ .aborted ∧
    ∃ t, exec .vlen { encodedAbc true with blk := finalAbc.set 4 1 } = .next t ∧
      decide (t.blockState = .aborted) = true :=
  ⟨reaches (by decide), by decide, reaches (by decide)⟩

theorem test_witness_HashChangesOnlyByCompression :
    Instr.cmpu ≠ .init ∧ ∃ t, exec .cmpu (hintedAbc true) = .next t ∧ decide (t.h ≠ (hintedAbc true).h) = true :=
  ⟨by decide, reaches (by rw [exec_cmpu_eq, compressFn_eq]; decide +kernel)⟩

theorem test_witness_NoInstructionWritesTheInputs :
    (∃ t, exec (.hashFull true) idleAbc = .next t) ∧ ∃ t, exec (.build 0) (busyAbc true) = .next t :=
  ⟨⟨_, rfl⟩, ⟨_, rfl⟩⟩

/-- A micro-operation that completes, one that aborts, and DIGEST. -/
theorem test_witness_MicroOperationsAdvanceUpcByOne :
    (busyAbc true).blockState = .busy ∧
    (∃ t, exec .init (busyAbc true) = .next t ∧ decide (t.blockState = .busy) = true) ∧
    (∃ t, exec (.vblk 0) slackAbc = .next t ∧ decide (t.blockState = .aborted) = true) ∧
    ∃ t, exec .digest (busyAbc true) = .next t ∧ decide (t.blockState = .done) = true :=
  ⟨rfl, reaches (by decide), reaches (by decide), reaches (by decide)⟩

/-- One instruction for each register that changes. OVR, CAUSE and INFO: below. -/
theorem test_witness_EveryRegisterHasItsWriters :
    (∃ t, exec .init (busyAbc true) = .next t ∧ decide (t.h ≠ (busyAbc true).h) = true) ∧
    (∃ t, exec .term (busyAbc true) = .next t ∧ decide (t.blk ≠ (busyAbc true).blk ∧ t.ptr ≠ (busyAbc true).ptr) = true) ∧
    (∃ t, exec .pack (encodedAbc true) = .next t ∧ decide (t.w ≠ (encodedAbc true).w) = true) ∧
    (∃ t, exec (.build 0) (busyAbc true) = .next t ∧ decide (t.hblk ≠ (busyAbc true).hblk) = true) ∧
    (∃ t, exec (.vblk 0) (hintedAbc true) = .next t ∧ decide (t.vptr ≠ (hintedAbc true).vptr) = true) ∧
    (∃ t, exec .attlen (encodedAbc true) = .next t ∧ decide (t.last ≠ (encodedAbc true).last) = true) ∧
    (∃ t, exec .digest (hintedAbc true) = .next t ∧ decide (t.digest ≠ (hintedAbc true).digest) = true) ∧
    ∃ t, exec (.hashVar true) idleAbc = .next t ∧ decide (t.size ≠ idleAbc.size ∧ t.checked ≠ idleAbc.checked) = true := by
  refine ⟨reaches ?_, reaches ?_, reaches ?_, reaches ?_, reaches ?_, reaches ?_, reaches ?_, reaches ?_⟩ <;> decide

/-- STATE, CAUSE and INFO by an abort and by a rejection, STATE and UPC by an acceptance, OVR by an overrun. -/
theorem test_witness_EveryRegisterHasItsWriters_status :
    (∃ t, exec (.vblk 0) slackAbc = .next t ∧
      decide (t.blockState ≠ slackAbc.blockState ∧ t.cause ≠ slackAbc.cause) = true) ∧
    (∃ t, exec .vlen { encodedAbc true with blk := finalAbc.set 4 1 } = .next t ∧
      decide (t.info ≠ (encodedAbc true).info) = true) ∧
    (∃ t, exec (.hashVar true) { idleAbc with msgSize := 65 } = .next t ∧ decide (t.cause ≠ idleAbc.cause) = true) ∧
    (∃ t, exec (.hashFull true) doneAbc = .next t ∧
      decide (t.upc ≠ doneAbc.upc ∧ t.blockState ≠ doneAbc.blockState) = true) ∧
    ∃ t, exec (.hashVar true) (busyAbc true) = .next t ∧ decide (t.ovr ≠ (busyAbc true).ovr) = true := by
  refine ⟨reaches ?_, reaches ?_, reaches ?_, reaches ?_, reaches ?_⟩ <;> decide

/-- A block that is not BUILD or VBLK, and an unchecked VBLK. -/
theorem test_witness_OnlyBuildAndVblkReadTheBuffer :
    (∀ n, Instr.pack ≠ .build n) ∧ (∀ n, Instr.pack ≠ .vblk n) ∧ (∃ t, exec .pack (busyAbc true) = .next t) ∧
    (∀ n, Instr.vblk 0 ≠ .build n) ∧ (busyAbc false).checked = false ∧
    ∃ t, exec (.vblk 0) (busyAbc false) = .next t :=
  ⟨fun _ h => (nomatch h), fun _ h => (nomatch h), ⟨_, rfl⟩, fun _ h => (nomatch h), rfl, _, rfl⟩

theorem test_witness_OnlyHashVarReadsMsgSize :
    (∀ c, Instr.hashFull true ≠ .hashVar c) ∧ (∃ t, exec (.hashFull true) idleAbc = .next t) ∧
    ∃ t, exec (.build 0) (busyAbc true) = .next t := ⟨fun _ h => (nomatch h), ⟨_, rfl⟩, ⟨_, rfl⟩⟩

theorem test_witness_CheckedModeNeverReadsHptr :
    (hintedAbc true).checked = true ∧ ∃ t, exec (.sel 0) (hintedAbc true) = .next t := ⟨rfl, _, rfl⟩

theorem test_witness_NoInstructionWritesTheInputs_step :
    (∃ t, step (busyAbc true) = .next t ∧ decide (t.upc = 1) = true) ∧
    ∃ t, step { idleAbc with hostActions := [.driveMsgSize 5] } = .next t ∧ decide (t.msgSize = 5) = true :=
  ⟨reaches (by decide), reaches (by decide)⟩

theorem test_witness_BufferIsStableWhileBusy :
    (busyAbc true).blockState = .busy ∧ (∃ t, step (busyAbc true) = .next t ∧ decide (t.upc = 1) = true) ∧
    ({ busyAbc true with hostActions := [.writeBuffer 3 1] } : State).hostActions = .writeBuffer 3 1 :: [] :=
  ⟨rfl, reaches (by decide), rfl⟩

/-- The last index of the buffer and the first past it. -/
theorem test_witness_HostWriteChangesOneByte :
    ({ idleAbc with hostActions := [.writeBuffer 63 1] } : State).hostActions = .writeBuffer 63 1 :: [] ∧
    idleAbc.blockState ≠ .busy ∧ Memory.wf idleAbc.buffer = true ∧ 63 < idleAbc.bufferSize ∧
    idleAbc.bufferSize ≤ 64 := by decide

theorem test_witness_DigestIsReadOnlyWhenDone :
    idleAbc.blockState ≠ .done ∧ doneAbc.blockState = .done ∧
    ({ idleAbc with hostActions := [.readReg (.digestWord 7)] } : State).hostActions =
      .readReg (.digestWord 7) :: [] ∧
    ({ idleAbc with hostActions := [.readReg (.digestByte 31)] } : State).hostActions =
      .readReg (.digestByte 31) :: [] ∧
    ({ doneAbc with hostActions := [.readReg (.digestByte 31)] } : State).hostActions =
      .readReg (.digestByte 31) :: [] ∧
    ({ doneAbc with hostActions := [.readReg (.digestWord 7)] } : State).hostActions =
      .readReg (.digestWord 7) :: [] := by decide

theorem test_witness_HostSeesTheRegisters :
    ({ idleAbc with hostActions := [.writeReg .status 5] } : State).hostActions = .writeReg .status 5 :: [] ∧
    ({ idleAbc with hostActions := [.writeReg .capacity 5] } : State).hostActions = .writeReg .capacity 5 :: [] ∧
    ({ idleAbc with hostActions := [.writeReg .info 5] } : State).hostActions = .writeReg .info 5 :: [] ∧
    ({ doneAbc with hostActions := [.writeReg (.digestByte 31) 5] } : State).hostActions =
      .writeReg (.digestByte 31) 5 :: [] ∧
    ({ doneAbc with hostActions := [.writeReg (.digestWord 7) 5] } : State).hostActions =
      .writeReg (.digestWord 7) 5 :: [] ∧
    ({ idleAbc with hostActions := [.readReg .info] } : State).hostActions = .readReg .info :: [] ∧
    (∀ j, HostReg.info ≠ .digestByte j) ∧ (∀ j, HostReg.info ≠ .digestWord j) ∧
    ({ idleAbc with hostActions := [.driveMsgSize 7] } : State).hostActions = .driveMsgSize 7 :: [] :=
  ⟨rfl, rfl, rfl, rfl, rfl, rfl, fun _ h => (nomatch h), fun _ h => (nomatch h), rfl⟩

/-- Legal states of every STATE. -/
theorem test_witness_EveryStepKeepsLegal :
    Legal idleAbc ∧ Legal (busyAbc true) ∧ Legal (encodedAbc true) ∧ Legal abortedAbc ∧ Legal doneAbc ∧
    Legal { idleAbc with blockState := .rejected, cause := .sizeRange } ∧
    (∃ t, step (encodedAbc true) = .next t ∧ decide (t.upc = 12) = true) :=
  ⟨⟨by decide, by decide, by decide, by decide⟩,
    ⟨by decide, by decide, by decide, by decide⟩,
    ⟨by decide, by decide, by decide, by decide⟩,
    ⟨by decide, by decide, by decide, by decide⟩,
    ⟨by decide, by decide, by decide, by decide⟩,
    ⟨by decide, by decide, by decide, by decide⟩,
    reaches (by decide)⟩

theorem test_witness_LegalBlockNeverStops :
    Legal (busyAbc true) ∧ (busyAbc true).hostActions = [] :=
  ⟨⟨by decide, by decide, by decide, by decide⟩, rfl⟩

theorem test_witness_EveryCommandEnds :
    Legal (busyAbc true) ∧ (busyAbc true).blockState = .busy ∧ (busyAbc true).hostActions = [] :=
  ⟨⟨by decide, by decide, by decide, by decide⟩, rfl, rfl⟩

/-- `N = 0` (P1), and `N = 1` with a slack byte. -/
theorem test_witness_DoneCommandHoldsTheDigest :
    JustAccepted (emptyCommand 0 true) ∧
    ∃ t, Sys2Proof.core.run 10 (emptyCommand 0 true) = .next t ∧ decide (t.blockState = .done) = true :=
  ⟨by decide, reaches (by decide +kernel)⟩

theorem slackZero_busyAbc (c : Bool) : SlackZero (busyAbc c) := by
  intro k h1 h2
  have h : ∀ k : Fin 64, 3 ≤ k.val → memRead (busyAbc c) k.val = some 0 := by cases c <;> decide
  exact h ⟨k, h2⟩ h1

/-- Checked with zero slack, and unchecked under oracle. -/
theorem test_witness_CommandReachesDone :
    JustAccepted (busyAbc true) ∧ (busyAbc true).hintSource = .builder ∧ SlackZero (busyAbc true) ∧
    JustAccepted (oracleAbc false) ∧ (oracleAbc false).checked = false :=
  ⟨by decide, rfl, slackZero_busyAbc true, by decide, rfl⟩

theorem test_witness_CheckedDoneMeansZeroSlack :
    JustAccepted (emptyCommand 1 true) ∧ (emptyCommand 1 true).checked = true ∧
    ∃ t, Sys2Proof.core.run 13 (emptyCommand 1 true) = .next t ∧ decide (t.blockState = .done) = true :=
  ⟨by decide, rfl, reaches (by decide +kernel)⟩

/-- V30: byte 3 is the only slack byte of the buffer and is not zero; the third step aborts. -/
theorem test_witness_NonzeroSlackAbortsACheckedCommand :
    JustAccepted slackAbc ∧ slackAbc.hintSource = .builder ∧ slackAbc.checked = true ∧ slackAbc.size.toNat ≤ 3 ∧
    3 < slackAbc.bufferSize ∧ memRead slackAbc 3 ≠ some 0 ∧
    (∀ k', slackAbc.size.toNat ≤ k' → k' < 3 → memRead slackAbc k' = some 0) ∧
    ∃ t, Sys2Proof.core.run 3 slackAbc = .next t ∧ decide (t.blockState = .aborted) = true := by
  refine ⟨by decide, rfl, rfl, by decide, by decide, by decide, fun k' h1 h2 => ?_, reaches (by decide)⟩
  have : 3 ≤ k' := h1
  omega

/-- The empty message at capacities 0 and 1, unchecked and checked. -/
theorem test_witness_DigestDependsOnTheMessageAlone :
    JustAccepted (emptyCommand 0 false) ∧ JustAccepted (emptyCommand 1 true) ∧
    message (emptyCommand 0 false) = message (emptyCommand 1 true) ∧
    (∃ t, Sys2Proof.core.run 10 (emptyCommand 0 false) = .next t ∧ decide (t.blockState = .done) = true) ∧
    ∃ t, Sys2Proof.core.run 13 (emptyCommand 1 true) = .next t ∧ decide (t.blockState = .done) = true :=
  ⟨by decide, by decide, rfl, reaches (by decide +kernel), reaches (by decide +kernel)⟩

theorem test_witness_EarlierCommandsLeaveNoTrace :
    JustAccepted (emptyCommand 0 true) ∧
    (∃ t, Sys2Proof.core.run 3 (emptyCommand 0 true) = .next t ∧ decide (t.upc = 3) = true) ∧
    ∃ t, Sys2Proof.core.run 10 (emptyCommand 0 true) = .next t ∧ decide (t.blockState = .done) = true :=
  ⟨by decide, reaches (by decide), reaches (by decide +kernel)⟩

end Sys2Proof.Tests
end

section
/-! SUPPORT. The step by the host's next action (10_state.md R24 to R29; 30_encoding.md R77). -/

namespace Sys2Proof.Machine

variable {s : State} {rest : List HostAction}

theorem step_of_nil (ha : s.hostActions = []) : step s = sequencerStep exec s := by
  simp only [step, machineStep, ha]

theorem step_of_idle (ha : s.hostActions = .idle :: rest) :
    step s = sequencerStep exec (s.withActions rest) := by simp only [step, machineStep, ha]

theorem step_of_wait (ha : s.hostActions = .wait :: rest) : step s = waitStep exec rest s := by
  simp only [step, machineStep, ha]

theorem step_of_driveMsgSize {v : DWord} (ha : s.hostActions = .driveMsgSize v :: rest) :
    step s = .next ((s.withActions rest).driveMsgSize v) := by simp only [step, machineStep, ha]

theorem step_of_writeReg {r : HostReg} {v : Word} (ha : s.hostActions = .writeReg r v :: rest) :
    step s = writePort exec r v (s.withActions rest) := by simp only [step, machineStep, ha]

theorem step_of_readReg {r : HostReg} (ha : s.hostActions = .readReg r :: rest) :
    step s = readPort r (s.withActions rest) := by simp only [step, machineStep, ha]

/-! The ports. -/

theorem readPort_of_ok {r : HostReg} {w : Word} (h : hostRead r s = .ok w) : readPort r s = .next s := by
  simp only [readPort, h]

theorem readPort_of_error {r : HostReg} {f : Fault} (h : hostRead r s = .error f) : readPort r s = .fault f := by
  simp only [readPort, h]

theorem issueWord_of_decode {w : Word} {i : Instr} (h : decode .cmd32 w = .ok i) :
    issueWord exec w s = exec i s := by simp only [issueWord, h]

theorem writePort_of_ne_cmd {r : HostReg} (hr : r ≠ .cmd) (v : Word) : writePort exec r v s = .next s := by
  cases r
  case cmd => exact absurd rfl hr
  all_goals rfl

/-! Reads of D (R28). -/

theorem hostRead_digestByte_done (hd : s.blockState = .done) (j : Fin 32) :
    hostRead (.digestByte j) s = .ok (s.digest[j].setWidth 32) := if_pos hd

theorem hostRead_digestWord_done (hd : s.blockState = .done) (j : Fin 8) :
    hostRead (.digestWord j) s = .ok (digestWord s j) := if_pos hd

theorem hostRead_digestByte_stops (hd : s.blockState ≠ .done) (j : Fin 32) :
    hostRead (.digestByte j) s = .error .digestUnspecified := if_neg hd

theorem hostRead_digestWord_stops (hd : s.blockState ≠ .done) (j : Fin 8) :
    hostRead (.digestWord j) s = .error .digestUnspecified := if_neg hd

/-- A read of a register other than D has a value in every STATE (R24 to R26, R29). -/
theorem hostRead_isOk {r : HostReg} (hb : ∀ j, r ≠ .digestByte j) (hw : ∀ j, r ≠ .digestWord j) :
    ∃ w, hostRead r s = .ok w := by
  cases r
  case digestByte j => exact absurd rfl (hb j)
  case digestWord j => exact absurd rfl (hw j)
  all_goals exact ⟨_, rfl⟩

/-! STATUS as a number (R24). -/

theorem statusWord_toNat (s : State) :
    (statusWord s).toNat =
      256 * s.mode.toNat + 16 * (causeCode s.cause).toNat + 8 * s.ovr.toNat + (stateCode s.blockState).toNat := by
  have hzero : (0 : BitVec 23).toNat = 0 := rfl
  simp only [statusWord, BitVec.toNat_append]
  rw [← Nat.shiftLeft_add_eq_or_of_lt (stateCode s.blockState).isLt,
    ← Nat.shiftLeft_add_eq_or_of_lt (BitVec.ofBool s.ovr).isLt,
    ← Nat.shiftLeft_add_eq_or_of_lt (causeCode s.cause).isLt,
    ← Nat.shiftLeft_add_eq_or_of_lt (BitVec.ofBool s.mode).isLt]
  simp only [Nat.shiftLeft_eq, BitVec.toNat_ofBool, hzero]
  omega

/-- The fields at the places of R24; bits 31 to 9 are 0. -/
theorem statusWord_fields (s : State) :
    (statusWord s).toNat % 8 = (stateCode s.blockState).toNat ∧ (statusWord s).toNat / 8 % 2 = s.ovr.toNat ∧
      (statusWord s).toNat / 16 % 16 = (causeCode s.cause).toNat ∧
      (statusWord s).toNat / 256 % 2 = s.mode.toNat ∧ (statusWord s).toNat < 512 := by
  have hs := (stateCode s.blockState).isLt
  have hc := (causeCode s.cause).isLt
  have ho := s.ovr.toNat_lt
  have hm := s.mode.toNat_lt
  rw [statusWord_toNat]
  omega

end Sys2Proof.Machine
end

section
/-! SUPPORT. The micro-program as the list R104 writes, its length, and the sequencer's fetch of it. -/

namespace Sys2Proof.Machine

theorem windowGroups_length (w : Nat) : ((List.range w).flatMap windowGroup).length = 5 * w := by
  simp [List.length_flatMap, windowGroup, Nat.mul_comm]

/-- The five-word groups of the full-capacity windows one after the other. -/
theorem windowGroups_getElem? {w m : Nat} (hm : m < 5 * w) :
    ((List.range w).flatMap windowGroup)[m]? = (windowGroup (m / 5))[m % 5]? := by
  induction w with
  | zero => omega
  | succ w ih =>
    have hlen := windowGroups_length w
    rw [List.range_succ, List.flatMap_append, List.flatMap_singleton]
    by_cases hw : m < 5 * w
    · rw [List.getElem?_append_left (by omega), ih hw]
    · rw [List.getElem?_append_right (by omega), hlen, show m / 5 = w by omega, show m % 5 = m - 5 * w by omega]

/-- The fetch reads the list R104 writes (R104, R107). -/
theorem fetchInstr_eq_getElem? (n k : Nat) : fetchInstr n k = (uprogInstrs n)[k]? := by
  cases k with
  | zero => rfl
  | succ m =>
    have hlen := windowGroups_length (n / 64)
    have hcons : uprogInstrs n =
        .init :: ((List.range (n / 64)).flatMap windowGroup ++ (tailGroup n ++ paddingGroup)) := by
      simp [uprogInstrs]
    rw [hcons, List.getElem?_cons_succ, fetchInstr]
    by_cases hm : m < 5 * (n / 64)
    · rw [if_pos hm, List.getElem?_append_left (by omega), windowGroups_getElem? hm]
    · rw [if_neg hm, List.getElem?_append_right (l₁ := List.flatMap _ _) (by omega), hlen]

theorem fetchWord_eq_getElem? (n k : Nat) : fetchWord n k = (uprog n)[k]? := by
  rw [fetchWord, fetchInstr_eq_getElem?, uprog, List.getElem?_map]

/-- LEN(N) (R106). -/
theorem uprogInstrs_length (n : Nat) : (uprogInstrs n).length = programLength n := by
  have htail : (tailGroup n).length = if n % 64 = 0 then 0 else 3 := by
    unfold tailGroup
    split <;> rfl
  simp only [uprogInstrs, List.length_append, List.length_flatMap, htail, programLength]
  simp [windowGroup, paddingGroup, Nat.mul_comm]

theorem mem_uprogInstrs_of_fetch {n k : Nat} {i : Instr} (h : fetchInstr n k = some i) : i ∈ uprogInstrs n :=
  List.mem_of_getElem? ((fetchInstr_eq_getElem? n k).symm.trans h)

/-- UPROG(N) holds INIT, micro-operations of windows up to the partial one, and the padding (R104). -/
theorem mem_uprogInstrs {n : Nat} {i : Instr} (h : i ∈ uprogInstrs n) :
    i = .init ∨ (∃ w, w ≤ n / 64 ∧ i ∈ windowGroup w) ∨ i ∈ paddingGroup := by
  simp only [uprogInstrs, List.mem_append, List.mem_flatMap, List.mem_range, List.mem_singleton] at h
  rcases h with ((rfl | ⟨w, hw, h⟩) | h) | h
  · exact .inl rfl
  · exact .inr (.inl ⟨w, hw.le, h⟩)
  · refine .inr (.inl ⟨n / 64, Nat.le_refl _, ?_⟩)
    unfold tailGroup at h
    split at h
    · cases h
    · exact List.mem_of_mem_take (i := 3) h
  · exact .inr (.inr h)

theorem fetchInstr_lt {n k : Nat} {i : Instr} (h : fetchInstr n k = some i) : k < programLength n := by
  rw [fetchInstr_eq_getElem?] at h
  rw [← uprogInstrs_length]
  exact (List.getElem?_eq_some_iff.mp h).1

/-- UPROG(N) holds micro-operations alone (R104). -/
theorem fetchInstr_format {n k : Nat} {i : Instr} (h : fetchInstr n k = some i) : i.format = .uop32 := by
  rcases mem_uprogInstrs (mem_uprogInstrs_of_fetch h) with rfl | ⟨w, -, hw⟩ | hp
  · rfl
  · revert hw
    simp only [windowGroup, List.mem_cons, List.not_mem_nil, or_false]
    rintro (rfl | rfl | rfl | rfl | rfl) <;> rfl
  · exact (by decide : ∀ i ∈ paddingGroup, i.format = .uop32) i hp

/-- The window indexes of UPROG(N) fit IDX (R72, R104). -/
theorem fetchInstr_wellFormed {n k : Nat} (hn : n < 2 ^ 32) {i : Instr} (h : fetchInstr n k = some i) :
    i.wellFormed = true := by
  rcases mem_uprogInstrs (mem_uprogInstrs_of_fetch h) with rfl | ⟨w, hle, hw⟩ | hp
  · rfl
  · have hfits : indexFits w = true := decide_eq_true (by omega)
    simp only [windowGroup, List.mem_cons, List.not_mem_nil, or_false] at hw
    rcases hw with rfl | rfl | rfl | rfl | rfl
    case inr.inr.inr.inl => rfl
    all_goals exact hfits
  · exact (by decide : ∀ i ∈ paddingGroup, i.wellFormed = true) i hp

/-! A micro-word read back (R72, R74). -/

theorem microOp_microWord (op : BitVec 6) {n : Nat} (hn : indexFits n = true) :
    (microOp (microWord op n)).toNat = op.toNat := by
  have hop := op.isLt
  rw [microOp_toNat, Laws.EncodeFields.indexed hn]
  omega

theorem microIdx_microWord (op : BitVec 6) {n : Nat} (hn : indexFits n = true) :
    (microIdx (microWord op n)).toNat = n := by
  have hop := op.isLt
  rw [microIdx_toNat, Laws.EncodeFields.indexed hn]
  omega

/-- A well-formed micro-operation is what its word decodes to. -/
theorem decodeMicro_encode {i : Instr} (hf : i.format = .uop32) (hw : i.wellFormed = true) :
    decode .uop32 (encode i) = .ok i := by
  have hzero : indexFits 0 = true := rfl
  cases i
  case hashVar c => cases hf
  case hashFull c => cases hf
  case build n | vblk n | sel n | cmpb n =>
    simp only [decode, encode, decodeMicro, microOp_microWord _ hw, microIdx_microWord _ hw]
    rfl
  all_goals
    simp only [decode, encode, decodeMicro, microOp_microWord _ hzero, microIdx_microWord _ hzero]
    rfl

/-! The sequencer (R107, R263). -/

theorem sequencerStep_of_not_busy {s : State} (hb : s.blockState ≠ .busy) : sequencerStep exec s = .next s :=
  if_neg hb

theorem sequencerStep_of_fetch {s : State} {u : Word} {i : Instr} (hb : s.blockState = .busy)
    (hu : fetchWord s.bufferSize s.upc.toNat = some u) (hd : decode .uop32 u = .ok i) :
    sequencerStep exec s = exec i s := by
  simp only [sequencerStep, hb, hu, hd, if_true]

end Sys2Proof.Machine
end

section
/-! SUPPORT. What an instruction reads and what it writes: the frame (a register it does not write is as before) and
the footprint (from two states that agree on what it reads it goes to two that agree on what it writes). -/

namespace Sys2Proof.Machine

/-- The datapath registers (R28, R32 to R38) and the two inputs the host fills (R27, R50). -/
inductive DataReg where
  | h
  | blk
  | ptr
  | w
  | hblk
  | hptr
  | vptr
  | last
  | digest
  | msgSize
  | buffer
  deriving DecidableEq

@[reducible] def DataReg.Value : DataReg → Type
  | .h => Vector Word 8
  | .blk => Vector Byte 64
  | .ptr => BitVec 7
  | .w => Vector Word 16
  | .hblk => Vector Byte 64
  | .hptr => BitVec 7
  | .vptr => BitVec 7
  | .last => Vector Byte 64
  | .digest => Vector Byte 32
  | .msgSize => DWord
  | .buffer => List Host.Cell

/-- What a data register holds. -/
def State.data (s : State) : (r : DataReg) → r.Value
  | .h => s.h
  | .blk => s.blk
  | .ptr => s.ptr
  | .w => s.w
  | .hblk => s.hblk
  | .hptr => s.hptr
  | .vptr => s.vptr
  | .last => s.last
  | .digest => s.digest
  | .msgSize => s.msgSize
  | .buffer => s.buffer

/-- Every field of the state but the data registers. -/
structure Control where
  capacity : Word
  hintSource : HintSource
  blockState : BlockState
  ovr : Bool
  cause : Cause
  mode : Bool
  info : Word
  size : DWord
  checked : Bool
  upc : Word
  hostActions : List HostAction
  freeCount : Nat

def State.control (s : State) : Control where
  capacity := s.capacity
  hintSource := s.hintSource
  blockState := s.blockState
  ovr := s.ovr
  cause := s.cause
  mode := s.mode
  info := s.info
  size := s.size
  checked := s.checked
  upc := s.upc
  hostActions := s.hostActions
  freeCount := s.freeCount

def State.ofParts (c : Control) (d : (r : DataReg) → r.Value) : State where
  capacity := c.capacity
  hintSource := c.hintSource
  blockState := c.blockState
  ovr := c.ovr
  cause := c.cause
  mode := c.mode
  info := c.info
  msgSize := d .msgSize
  size := c.size
  checked := c.checked
  upc := c.upc
  h := d .h
  blk := d .blk
  ptr := d .ptr
  w := d .w
  hblk := d .hblk
  hptr := d .hptr
  vptr := d .vptr
  last := d .last
  digest := d .digest
  buffer := d .buffer
  hostActions := c.hostActions
  freeCount := c.freeCount

theorem State.ofParts_control_data (s : State) : State.ofParts s.control s.data = s := rfl

/-- The two parts make up the whole state. -/
theorem State.eq_of_control_data {s t : State} (hc : t.control = s.control) (hd : ∀ r, t.data r = s.data r) :
    t = s := by
  rw [← ofParts_control_data t, hc, funext hd, ofParts_control_data]

/-! What each register write does to the data registers. -/

@[simp] theorem State.data_writeHash (s : State) (v : Vector Word 8) :
    (s.writeHash v).data = Function.update s.data .h v := by funext r; cases r <;> rfl

@[simp] theorem State.data_writeBlock (s : State) (v : Vector Byte 64) :
    (s.writeBlock v).data = Function.update s.data .blk v := by funext r; cases r <;> rfl

@[simp] theorem State.data_writePointer (s : State) (v : BitVec 7) :
    (s.writePointer v).data = Function.update s.data .ptr v := by funext r; cases r <;> rfl

@[simp] theorem State.data_writeWords (s : State) (v : Vector Word 16) :
    (s.writeWords v).data = Function.update s.data .w v := by funext r; cases r <;> rfl

@[simp] theorem State.data_writeHint (s : State) (b : Vector Byte 64) (p : BitVec 7) :
    (s.writeHint b p).data = Function.update (Function.update s.data .hptr p) .hblk b := by
  funext r; cases r <;> rfl

@[simp] theorem State.data_writeVerified (s : State) (v : BitVec 7) :
    (s.writeVerified v).data = Function.update s.data .vptr v := by funext r; cases r <;> rfl

@[simp] theorem State.data_writeLast (s : State) (v : Vector Byte 64) :
    (s.writeLast v).data = Function.update s.data .last v := by funext r; cases r <;> rfl

@[simp] theorem State.data_writeDigest (s : State) (v : Vector Byte 32) :
    (s.writeDigest v).data = Function.update s.data .digest v := by funext r; cases r <;> rfl

@[simp] theorem State.data_accept (s : State) (c : Bool) (n : DWord) :
    (s.accept c n).data = Function.update s.data .digest (Config.unspecifiedDigest s.freeCount) := by
  funext r; cases r <;> rfl

@[simp] theorem State.data_advance (s : State) : s.advance.data = s.data := by funext r; cases r <;> rfl

@[simp] theorem State.data_driveMsgSize (s : State) (v : DWord) :
    (s.driveMsgSize v).data = Function.update s.data .msgSize v := by funext r; cases r <;> rfl

@[simp] theorem State.data_takeFree (s : State) : s.takeFree.data = s.data := by funext r; cases r <;> rfl

@[simp] theorem State.data_abort (s : State) (c : Cause) (n : Word) : (s.abort c n).data = s.data := by
  funext r; cases r <;> rfl

@[simp] theorem State.data_reject (s : State) (c : Cause) (n : Word) : (s.reject c n).data = s.data := by
  funext r; cases r <;> rfl

@[simp] theorem State.data_overrun (s : State) : s.overrun.data = s.data := by funext r; cases r <;> rfl

/-! What each register write does to the other fields. -/

@[simp] theorem State.control_writeHash (s : State) (v : Vector Word 8) : (s.writeHash v).control = s.control := rfl

@[simp] theorem State.control_writeBlock (s : State) (v : Vector Byte 64) :
    (s.writeBlock v).control = s.control := rfl

@[simp] theorem State.control_writePointer (s : State) (v : BitVec 7) :
    (s.writePointer v).control = s.control := rfl

@[simp] theorem State.control_writeWords (s : State) (v : Vector Word 16) :
    (s.writeWords v).control = s.control := rfl

@[simp] theorem State.control_writeHint (s : State) (b : Vector Byte 64) (p : BitVec 7) :
    (s.writeHint b p).control = s.control := rfl

@[simp] theorem State.control_writeVerified (s : State) (v : BitVec 7) :
    (s.writeVerified v).control = s.control := rfl

@[simp] theorem State.control_writeLast (s : State) (v : Vector Byte 64) :
    (s.writeLast v).control = s.control := rfl

@[simp] theorem State.control_writeDigest (s : State) (v : Vector Byte 32) :
    (s.writeDigest v).control = { s.control with blockState := .done } := rfl

@[simp] theorem State.control_advance (s : State) :
    s.advance.control = { s.control with upc := s.control.upc + 1 } := rfl

@[simp] theorem State.control_takeFree (s : State) :
    s.takeFree.control = { s.control with freeCount := s.control.freeCount + 1 } := rfl

@[simp] theorem State.control_abort (s : State) (c : Cause) (n : Word) :
    (s.abort c n).control = { s.control with blockState := .aborted, cause := c, info := n } := rfl

@[simp] theorem State.control_reject (s : State) (c : Cause) (n : Word) :
    (s.reject c n).control =
      { s.control with blockState := .rejected, cause := c, info := n, ovr := false } := rfl

@[simp] theorem State.control_overrun (s : State) : s.overrun.control = { s.control with ovr := true } := rfl

@[simp] theorem State.control_accept (s : State) (c : Bool) (n : DWord) :
    (s.accept c n).control =
      { s.control with
        size := n, checked := c, mode := c, blockState := .busy, cause := .none, info := 0, ovr := false, upc := 0,
        freeCount := s.control.freeCount + 1 } := rfl

/-! What an instruction does to the other fields. -/

/-- STATE after a micro-operation that completes: DIGEST alone ends the command (R108, R221). -/
def stateAfter (b : BlockState) : Instr → BlockState
  | .digest => .done
  | _ => b

theorem stateAfter_of_ne {i : Instr} (hi : i ≠ .digest) (b : BlockState) : stateAfter b i = b := by
  cases i
  case digest => exact absurd rfl hi
  all_goals rfl

/-- The other fields after a micro-operation that completes: UPC is one more, and free values may have been taken. -/
def Completes (i : Instr) (s t : State) : Prop :=
  t.control = { s.control with
    upc := s.control.upc + 1, freeCount := t.control.freeCount, blockState := stateAfter s.control.blockState i }

section
variable {i : Instr} {s t : State}

theorem Completes.capacity (h : Completes i s t) : t.capacity = s.capacity := congrArg Control.capacity h

theorem Completes.blockState (h : Completes i s t) : t.blockState = stateAfter s.blockState i :=
  congrArg Control.blockState h

theorem Completes.ovr (h : Completes i s t) : t.ovr = s.ovr := congrArg Control.ovr h

theorem Completes.cause (h : Completes i s t) : t.cause = s.cause := congrArg Control.cause h

theorem Completes.mode (h : Completes i s t) : t.mode = s.mode := congrArg Control.mode h

theorem Completes.info (h : Completes i s t) : t.info = s.info := congrArg Control.info h

theorem Completes.size (h : Completes i s t) : t.size = s.size := congrArg Control.size h

theorem Completes.checked (h : Completes i s t) : t.checked = s.checked := congrArg Control.checked h

theorem Completes.upc (h : Completes i s t) : t.upc = s.upc + 1 := congrArg Control.upc h

theorem Completes.hostActions (h : Completes i s t) : t.hostActions = s.hostActions := congrArg Control.hostActions h

end

/-- A verifier in checked mode aborts (R231, R232, R234). -/
def VerifierAborts (i : Instr) (s t : State) : Prop :=
  ((∃ n, i = .vblk n) ∨ i = .vlen) ∧ s.checked = true ∧ ∃ c n, t = s.abort c n

/-- Every next state of a micro-operation (R108, R231). -/
theorem exec_micro_cases {i : Instr} {s t : State} (hf : i.format = .uop32) (h : exec i s = .next t) :
    Completes i s t ∨ VerifierAborts i s t := by
  cases i
  case hashVar | hashFull => cases hf
  case init | pack | cmpu | digest =>
    cases h
    exact .inl (by simp [Completes, stateAfter])
  case build n =>
    rcases exec_build_cases h with ⟨-, ⟨-, rfl⟩ | ⟨-, rfl⟩⟩ <;> exact .inl (by simp [Completes, stateAfter])
  case vblk n =>
    rcases exec_vblk_cases h with ⟨-, rfl⟩ | ⟨-, -, rfl⟩ | ⟨hc, c, m, -, rfl⟩
    · exact .inl (by simp [Completes, stateAfter])
    · exact .inl (by simp [Completes, stateAfter])
    · exact .inr ⟨.inl ⟨n, rfl⟩, hc, c, _, rfl⟩
  case sel n => rcases exec_sel_cases h with ⟨-, rfl⟩ | ⟨-, rfl⟩ <;> exact .inl (by simp [Completes, stateAfter])
  case cmpb n => rcases exec_cmpb_cases h with ⟨-, -, rfl⟩ | ⟨-, rfl⟩ <;> exact .inl (by simp [Completes, stateAfter])
  case ptrwrap => rcases exec_ptrwrap_cases h with ⟨-, rfl⟩ | ⟨-, rfl⟩ <;> exact .inl (by simp [Completes, stateAfter])
  case term =>
    obtain ⟨-, rfl⟩ := exec_term_cases h
    exact .inl (by simp [Completes, stateAfter])
  case flush => rcases exec_flush_cases h with ⟨-, rfl⟩ | ⟨-, rfl⟩ <;> exact .inl (by simp [Completes, stateAfter])
  case attlen => rcases exec_attlen_cases h with ⟨-, rfl⟩ | ⟨-, rfl⟩ <;> exact .inl (by simp [Completes, stateAfter])
  case vlen =>
    rcases exec_vlen_cases h with ⟨-, rfl⟩ | ⟨-, -, rfl⟩ | ⟨hc, c, m, -, rfl⟩
    · exact .inl (by simp [Completes, stateAfter])
    · exact .inl (by simp [Completes, stateAfter])
    · exact .inr ⟨.inr rfl, hc, c, _, rfl⟩

/-- A command is ignored, an overrun, rejected for its size, or accepted (R100, R101, R242, R244). -/
theorem exec_command_cases {i : Instr} {s t : State} (hf : i.format = .cmd32) (h : exec i s = .next t) :
    t = s ∨ t = s.overrun ∨ t = s.reject .sizeRange 0 ∨ ∃ c n, t = s.accept c n := by
  cases i
  case hashVar c =>
    rcases exec_hashVar_cases h with ⟨-, rfl⟩ | ⟨-, rfl⟩ | ⟨-, -, rfl⟩ | ⟨-, -, rfl⟩
    · exact .inl rfl
    · exact .inr (.inl rfl)
    · exact .inr (.inr (.inl rfl))
    · exact .inr (.inr (.inr ⟨_, _, rfl⟩))
  case hashFull c =>
    rcases exec_hashFull_cases h with ⟨-, rfl⟩ | ⟨-, rfl⟩ | ⟨-, rfl⟩
    · exact .inl rfl
    · exact .inr (.inl rfl)
    · exact .inr (.inr (.inr ⟨_, _, rfl⟩))
  all_goals cases hf

theorem format_cases (i : Instr) : i.format = .cmd32 ∨ i.format = .uop32 := by cases i <;> simp [Instr.format]

/-! The frame. -/

/-- The data registers an instruction may write in a mode: an acceptance makes D unspecified (R101), and VBLK writes
in checked mode alone (R132). -/
def written (checked : Bool) : Instr → List DataReg
  | .hashVar _ => [.digest]
  | .hashFull _ => [.digest]
  | .init => [.ptr, .blk, .h]
  | .build _ => [.hblk, .hptr]
  | .vblk _ => if checked then [.vptr] else []
  | .sel _ => [.ptr, .blk]
  | .pack => [.w]
  | .cmpb _ => [.h]
  | .ptrwrap => [.ptr]
  | .term => [.ptr, .blk]
  | .flush => [.ptr, .h]
  | .attlen => [.last, .blk]
  | .vlen => []
  | .cmpu => [.h]
  | .digest => [.digest]

theorem exec_frame {i : Instr} {s t : State} {r : DataReg} (h : exec i s = .next t) (hr : r ∉ written s.checked i) :
    t.data r = s.data r := by
  cases i <;> simp only [written, List.mem_cons, List.not_mem_nil, or_false, not_or] at hr
  case hashVar c | hashFull c =>
    rcases exec_command_cases rfl h with rfl | rfl | rfl | ⟨c, n, rfl⟩ <;> simp [hr]
  case init | pack | cmpu | digest =>
    cases h
    simp [hr]
  case build n => rcases exec_build_cases h with ⟨-, ⟨-, rfl⟩ | ⟨-, rfl⟩⟩ <;> simp [hr]
  case vblk n =>
    rcases exec_vblk_cases h with ⟨-, rfl⟩ | ⟨hc, -, rfl⟩ | ⟨-, c, m, -, rfl⟩
    · simp
    · have hne : r ≠ .vptr := by simpa [hc] using hr
      simp [hne]
    · simp
  case sel n => rcases exec_sel_cases h with ⟨-, rfl⟩ | ⟨-, rfl⟩ <;> simp [hr]
  case cmpb n => rcases exec_cmpb_cases h with ⟨-, -, rfl⟩ | ⟨-, rfl⟩ <;> simp [hr]
  case ptrwrap => rcases exec_ptrwrap_cases h with ⟨-, rfl⟩ | ⟨-, rfl⟩ <;> simp [hr]
  case term =>
    obtain ⟨-, rfl⟩ := exec_term_cases h
    simp [hr]
  case flush => rcases exec_flush_cases h with ⟨-, rfl⟩ | ⟨-, rfl⟩ <;> simp [hr]
  case attlen => rcases exec_attlen_cases h with ⟨-, rfl⟩ | ⟨-, rfl⟩ <;> simp [hr]
  case vlen => rcases exec_vlen_cases h with ⟨-, rfl⟩ | ⟨-, -, rfl⟩ | ⟨-, c, m, -, rfl⟩ <;> simp

theorem mem_written_of_ne {i : Instr} {s t : State} {r : DataReg} (h : exec i s = .next t)
    (hr : t.data r ≠ s.data r) : r ∈ written s.checked i := by
  by_contra hn
  exact hr (exec_frame h hn)

/-! The footprint. -/

/-- The data registers an instruction's next state depends on in a mode. A register that is written in some states
only counts as read, since it may keep its old value; D of a command and VPTR of a verifier that aborts do not. -/
def reads (checked : Bool) : Instr → List DataReg
  | .hashVar _ => [.msgSize]
  | .hashFull _ => []
  | .init => []
  | .build _ => [.buffer]
  | .vblk _ => if checked then [.hblk, .buffer] else []
  | .sel _ => if checked then [.ptr, .blk, .hblk, .vptr] else [.ptr, .blk, .hblk, .hptr]
  | .pack => [.blk]
  | .cmpb _ => [.h, .w, .ptr]
  | .ptrwrap => [.ptr]
  | .term => [.ptr, .blk]
  | .flush => [.ptr, .h, .w]
  | .attlen => [.ptr, .blk]
  | .vlen => if checked then [.blk, .ptr, .last] else []
  | .cmpu => [.h, .w]
  | .digest => [.h]

/-- Two states that differ in data registers outside `L` alone. -/
structure Agree (L : List DataReg) (s s' : State) : Prop where
  control : s'.control = s.control
  data : ∀ r ∈ L, s'.data r = s.data r

/-- Every data register but one. -/
def allBut (q : DataReg) : List DataReg :=
  [DataReg.h, .blk, .ptr, .w, .hblk, .hptr, .vptr, .last, .digest, .msgSize, .buffer].filter (· ≠ q)

theorem mem_allBut {q r : DataReg} : r ∈ allBut q ↔ r ≠ q := by
  cases r <;> simp [allBut]

section
variable {L : List DataReg} {s s' u u' : State}

theorem Agree.mono {L' : List DataReg} (h : Agree L s s') (hL : L' ⊆ L) : Agree L' s s' :=
  ⟨h.control, fun r hr => h.data r (hL hr)⟩

/-- Both states keep agreeing where an instruction keeps every register or writes one that agrees. -/
theorem Agree.append {W : List DataReg} (h : Agree L s s') (hW : W ⊆ L) : Agree (W ++ L) s s' :=
  h.mono (List.append_subset.mpr ⟨hW, List.Subset.refl L⟩)

/-- One register is written with the same value in both states. -/
theorem Agree.update {r : DataReg} {v v' : r.Value} (h : Agree L s s') (hc : u'.control = u.control)
    (hu : u.data = Function.update s.data r v) (hu' : u'.data = Function.update s'.data r v') (hv : v' = v) :
    Agree (r :: L) u u' := by
  refine ⟨hc, fun q hq => ?_⟩
  rw [hu, hu', hv]
  by_cases hqr : q = r
  · subst hqr
    rw [Function.update_self, Function.update_self]
  · rw [Function.update_of_ne hqr, Function.update_of_ne hqr]
    exact h.data q ((List.mem_cons.mp hq).resolve_left hqr)

theorem Agree.writeHash (h : Agree L s s') {v v' : Vector Word 8} (hv : v' = v) :
    Agree (.h :: L) (s.writeHash v) (s'.writeHash v') :=
  h.update h.control (s.data_writeHash v) (s'.data_writeHash v') hv

theorem Agree.writeBlock (h : Agree L s s') {v v' : Vector Byte 64} (hv : v' = v) :
    Agree (.blk :: L) (s.writeBlock v) (s'.writeBlock v') :=
  h.update h.control (s.data_writeBlock v) (s'.data_writeBlock v') hv

theorem Agree.writePointer (h : Agree L s s') {v v' : BitVec 7} (hv : v' = v) :
    Agree (.ptr :: L) (s.writePointer v) (s'.writePointer v') :=
  h.update h.control (s.data_writePointer v) (s'.data_writePointer v') hv

theorem Agree.writeWords (h : Agree L s s') {v v' : Vector Word 16} (hv : v' = v) :
    Agree (.w :: L) (s.writeWords v) (s'.writeWords v') :=
  h.update h.control (s.data_writeWords v) (s'.data_writeWords v') hv

theorem Agree.writeHint (h : Agree L s s') {b b' : Vector Byte 64} {p p' : BitVec 7} (hb : b' = b) (hp : p' = p) :
    Agree (.hblk :: .hptr :: L) (s.writeHint b p) (s'.writeHint b' p') := by
  subst hb hp
  refine ⟨h.control, fun r hr => ?_⟩
  simp only [List.mem_cons] at hr
  by_cases hb : r = .hblk
  · subst hb
    rfl
  · by_cases hp : r = .hptr
    · subst hp
      rfl
    · simpa [hb, hp] using h.data r ((hr.resolve_left hb).resolve_left hp)

theorem Agree.writeVerified (h : Agree L s s') {v v' : BitVec 7} (hv : v' = v) :
    Agree (.vptr :: L) (s.writeVerified v) (s'.writeVerified v') :=
  h.update h.control (s.data_writeVerified v) (s'.data_writeVerified v') hv

theorem Agree.writeLast (h : Agree L s s') {v v' : Vector Byte 64} (hv : v' = v) :
    Agree (.last :: L) (s.writeLast v) (s'.writeLast v') :=
  h.update h.control (s.data_writeLast v) (s'.data_writeLast v') hv

theorem Agree.writeDigest (h : Agree L s s') {v v' : Vector Byte 32} (hv : v' = v) :
    Agree (.digest :: L) (s.writeDigest v) (s'.writeDigest v') :=
  h.update (by simp [h.control]) (s.data_writeDigest v) (s'.data_writeDigest v') hv

theorem Agree.accept (h : Agree L s s') (c : Bool) (n : DWord) :
    Agree (.digest :: L) (s.accept c n) (s'.accept c n) :=
  h.update (by simp [h.control]) (s.data_accept c n) (s'.data_accept c n)
    (congrArg (fun c => Config.unspecifiedDigest c.freeCount) h.control)

theorem Agree.advance (h : Agree L s s') : Agree L s.advance s'.advance :=
  ⟨by simp [h.control], by simpa using h.data⟩

theorem Agree.takeFree (h : Agree L s s') : Agree L s.takeFree s'.takeFree :=
  ⟨by simp [h.control], by simpa using h.data⟩

theorem Agree.abort (h : Agree L s s') (c : Cause) (n : Word) : Agree L (s.abort c n) (s'.abort c n) :=
  ⟨by simp [h.control], by simpa using h.data⟩

theorem Agree.reject (h : Agree L s s') (c : Cause) (n : Word) : Agree L (s.reject c n) (s'.reject c n) :=
  ⟨by simp [h.control], by simpa using h.data⟩

theorem Agree.overrun (h : Agree L s s') : Agree L s.overrun s'.overrun :=
  ⟨by simp [h.control], by simpa using h.data⟩

/-! What the operands depend on. -/

theorem Agree.size (h : Agree L s s') : s'.size = s.size := congrArg Control.size h.control

theorem Agree.checked (h : Agree L s s') : s'.checked = s.checked := congrArg Control.checked h.control

theorem Agree.freeCount (h : Agree L s s') : s'.freeCount = s.freeCount := congrArg Control.freeCount h.control

theorem Agree.bufferSize (h : Agree L s s') : s'.bufferSize = s.bufferSize :=
  congrArg (fun c => c.capacity.toNat) h.control

theorem Agree.windowCount (h : Agree L s s') (i : Nat) : windowCount s' i = windowCount s i := by
  rw [windowCount_eq, windowCount_eq, h.size]

theorem Agree.windowReadable (h : Agree L s s') (i : Nat) : windowReadable s' i = windowReadable s i := by
  rw [Machine.windowReadable, Machine.windowReadable, h.windowCount, h.bufferSize]

theorem Agree.drawsHints (h : Agree L s s') : drawsHints s' = drawsHints s := by
  have hsource : s'.hintSource = s.hintSource := congrArg Control.hintSource h.control
  rw [Machine.drawsHints, Machine.drawsHints, hsource, h.checked]

theorem Agree.windowBytes (h : Agree L s s') (hb : s'.buffer = s.buffer) (i : Nat) :
    windowBytes s' i = windowBytes s i := by
  simp only [Machine.windowBytes, h.windowCount, hb]

theorem Agree.windowVerdict (h : Agree L s s') (hh : s'.hblk = s.hblk) (hb : s'.buffer = s.buffer) (i : Nat) :
    windowVerdict s' i = windowVerdict s i := by
  have hcap : s'.capacity = s.capacity := congrArg Control.capacity h.control
  have htest : windowTest s' i = windowTest s i := by
    funext j
    simp only [windowTest, memRead_congr hcap hb, h.windowCount, hh]
  rw [Machine.windowVerdict, Machine.windowVerdict, htest]

theorem Agree.paddedBlock (h : Agree L s s') (hp : s'.ptr = s.ptr) (hb : s'.blk = s.blk) :
    paddedBlock s' = paddedBlock s := by
  simp only [Machine.paddedBlock, bitLength, h.size, hp, hb]

theorem Agree.lengthVerdict (h : Agree L s s') (hb : s'.blk = s.blk) (hp : s'.ptr = s.ptr)
    (hl : s'.last = s.last) : lengthVerdict s' = lengthVerdict s := by
  unfold Machine.lengthVerdict trailerTest prefixTest pastBlockTest fillTest bitLength
  rw [h.size, hb, hp, hl]

/-! The rule per micro-operation. -/

/-- The footprint of a micro-operation: the second state has a next state too, which agrees on what was written as
well, or both abort. -/
theorem exec_micro_agree {i : Instr} {t : State} (hf : i.format = .uop32) (h : Agree L s s')
    (hL : reads s.checked i ⊆ L) (hx : exec i s = .next t) :
    ∃ t', exec i s' = .next t' ∧
      (Agree (written s.checked i ++ L) t t' ∨ (t.blockState = .aborted ∧ Agree L t t')) := by
  have hreg : ∀ r ∈ reads s.checked i, s'.data r = s.data r := fun r hr => h.data r (hL hr)
  cases i
  case hashVar | hashFull => cases hf
  case init =>
    cases hx
    exact ⟨_, exec_init_eq s', .inl ((((h.writeHash rfl).writeBlock rfl).writePointer rfl).advance)⟩
  case build n =>
    rcases exec_build_cases hx with ⟨hr, ⟨hd, rfl⟩ | ⟨hd, rfl⟩⟩
    · refine ⟨_, exec_build_draw ((h.windowReadable n).trans hr) (h.drawsHints.trans hd), .inl ?_⟩
      exact (h.writeHint (by rw [h.freeCount]) (by rw [h.freeCount])).takeFree.advance
    · have hb : s'.buffer = s.buffer := hreg .buffer (by simp [reads])
      refine ⟨_, exec_build_hint ((h.windowReadable n).trans hr) (h.drawsHints.trans hd), .inl ?_⟩
      exact (h.writeHint (h.windowBytes hb n) (by rw [h.windowCount])).advance
  case vblk n =>
    rcases exec_vblk_cases hx with ⟨hc, rfl⟩ | ⟨hc, hv, rfl⟩ | ⟨hc, c, m, hv, rfl⟩
    · refine ⟨_, exec_vblk_unchecked n (h.checked.trans hc), .inl ?_⟩
      exact (h.append (by simp [written, hc])).advance
    all_goals
      have hh : s'.hblk = s.hblk := hreg .hblk (by simp [reads, hc])
      have hb : s'.buffer = s.buffer := hreg .buffer (by simp [reads, hc])
      have hexec := exec_vblk_checked n (h.checked.trans hc)
    · rw [← windowVerdict_none_iff] at hv
      rw [h.windowVerdict hh hb, hv] at hexec
      rw [written, if_pos hc]
      exact ⟨_, hexec, .inl (h.writeVerified (by rw [h.windowCount])).advance⟩
    · rw [h.windowVerdict hh hb, hv] at hexec
      exact ⟨_, hexec, .inr ⟨rfl, h.abort c _⟩⟩
  case sel n =>
    rcases exec_sel_cases hx with ⟨hi, rfl⟩ | ⟨hi, rfl⟩
    · have hh : s'.hblk = s.hblk := hreg .hblk (by cases s.checked <;> simp [reads])
      refine ⟨_, exec_sel_in (h.size ▸ hi), .inl ((h.writeBlock hh).writePointer ?_).advance⟩
      rw [h.checked]
      split
      · next hc => exact hreg .vptr (by simp [reads, hc])
      · next hc => exact hreg .hptr (by simp [reads, hc])
    · have hW : written s.checked (.sel n) ⊆ L :=
        List.Subset.trans (by cases s.checked <;> simp [reads, written]) hL
      exact ⟨_, exec_sel_out (h.size ▸ hi), .inl (h.append hW).advance⟩
  case pack =>
    cases hx
    have hb : s'.blk = s.blk := hreg .blk (by simp [reads])
    exact ⟨_, exec_pack_eq s', .inl (h.writeWords (by rw [hb])).advance⟩
  case cmpb n =>
    have hh : s'.h = s.h := hreg .h (by simp [reads])
    have hw : s'.w = s.w := hreg .w (by simp [reads])
    have hp : s'.ptr = s.ptr := hreg .ptr (by simp [reads])
    rcases exec_cmpb_cases hx with ⟨hi, hfull, rfl⟩ | ⟨hi, rfl⟩
    · refine ⟨_, exec_cmpb_taken (h.size ▸ hi) (hp ▸ hfull), .inl ?_⟩
      exact (h.writeHash (by rw [hh, hw])).advance
    · have hW : written s.checked (.cmpb n) ⊆ L := List.Subset.trans (by simp [reads, written]) hL
      exact ⟨_, exec_cmpb_skipped (h.size ▸ hp ▸ hi), .inl (h.append hW).advance⟩
  case ptrwrap =>
    have hp : s'.ptr = s.ptr := hreg .ptr (by simp [reads])
    rcases exec_ptrwrap_cases hx with ⟨hfull, rfl⟩ | ⟨hfull, rfl⟩
    · exact ⟨_, exec_ptrwrap_full (hp ▸ hfull), .inl (h.writePointer rfl).advance⟩
    · exact ⟨_, exec_ptrwrap_other (hp ▸ hfull), .inl (h.append hL).advance⟩
  case term =>
    have hp : s'.ptr = s.ptr := hreg .ptr (by simp [reads])
    have hb : s'.blk = s.blk := hreg .blk (by simp [reads])
    obtain ⟨hlt, rfl⟩ := exec_term_cases hx
    refine ⟨_, exec_term_eq (hp ▸ hlt), .inl ((h.writeBlock ?_).writePointer (by rw [hp])).advance⟩
    simp only [hb, hp]
  case flush =>
    have hh : s'.h = s.h := hreg .h (by simp [reads])
    have hw : s'.w = s.w := hreg .w (by simp [reads])
    have hp : s'.ptr = s.ptr := hreg .ptr (by simp [reads])
    rcases exec_flush_cases hx with ⟨hlt, rfl⟩ | ⟨hle, rfl⟩
    · refine ⟨_, exec_flush_taken (hp ▸ hlt), .inl ?_⟩
      exact ((h.writeHash (by rw [hh, hw])).writePointer rfl).advance
    · have hW : written s.checked .flush ⊆ L := List.Subset.trans (by simp [reads, written]) hL
      exact ⟨_, exec_flush_skipped (hp ▸ hle), .inl (h.append hW).advance⟩
  case attlen =>
    have hp : s'.ptr = s.ptr := hreg .ptr (by simp [reads])
    have hb : s'.blk = s.blk := hreg .blk (by simp [reads])
    rcases exec_attlen_cases hx with ⟨hd, rfl⟩ | ⟨hd, rfl⟩
    · refine ⟨_, exec_attlen_draw (h.drawsHints.trans hd), .inl ?_⟩
      exact ((h.writeBlock (by rw [h.freeCount])).takeFree.writeLast hb).advance
    · refine ⟨_, exec_attlen_hint (h.drawsHints.trans hd), .inl ?_⟩
      exact ((h.writeBlock (h.paddedBlock hp hb)).writeLast hb).advance
  case vlen =>
    rcases exec_vlen_cases hx with ⟨hc, rfl⟩ | ⟨hc, hv, rfl⟩ | ⟨hc, c, m, hv, rfl⟩
    · exact ⟨_, exec_vlen_unchecked (h.checked.trans hc), .inl h.advance⟩
    all_goals
      have hb : s'.blk = s.blk := hreg .blk (by simp [reads, hc])
      have hp : s'.ptr = s.ptr := hreg .ptr (by simp [reads, hc])
      have hl : s'.last = s.last := hreg .last (by simp [reads, hc])
      have hexec := exec_vlen_checked (h.checked.trans hc)
      rw [h.lengthVerdict hb hp hl, hv] at hexec
    · exact ⟨_, hexec, .inl h.advance⟩
    · exact ⟨_, hexec, .inr ⟨rfl, h.abort c _⟩⟩
  case cmpu =>
    cases hx
    have hh : s'.h = s.h := hreg .h (by simp [reads])
    have hw : s'.w = s.w := hreg .w (by simp [reads])
    exact ⟨_, exec_cmpu_eq s', .inl (h.writeHash (by rw [hh, hw])).advance⟩
  case digest =>
    cases hx
    have hh : s'.h = s.h := hreg .h (by simp [reads])
    exact ⟨_, exec_digest_eq s', .inl (h.writeDigest (by rw [hh])).advance⟩

/-- The footprint of a command. -/
theorem exec_command_agree {i : Instr} {t : State} (hf : i.format = .cmd32) (h : Agree L s s')
    (hL : reads s.checked i ⊆ L) (hx : exec i s = .next t) : ∃ t', exec i s' = .next t' ∧ Agree L t t' := by
  have hstate : s'.blockState = s.blockState := congrArg Control.blockState h.control
  have hcap : s'.capacity = s.capacity := congrArg Control.capacity h.control
  have haccepts : AcceptsCommands s → AcceptsCommands s' := fun ha => by rwa [AcceptsCommands, hstate]
  have haccept : ∀ c n, Agree L (s.accept c n) (s'.accept c n) :=
    fun c n => (h.accept c n).mono (List.subset_cons_self _ _)
  cases i
  case hashVar c =>
    have hm : s'.msgSize = s.msgSize := h.data .msgSize (hL (by simp [reads]))
    rcases exec_hashVar_cases hx with ⟨hb, rfl⟩ | ⟨hb, rfl⟩ | ⟨ha, hlt, rfl⟩ | ⟨ha, hle, rfl⟩
    · exact ⟨s', congrArg Host.Outcome.next (issueGate_aborted (hstate.trans hb)), h⟩
    · exact ⟨_, congrArg Host.Outcome.next (issueGate_busy (hstate.trans hb)), h.overrun⟩
    · exact ⟨_, exec_hashVar_rejects (haccepts ha) (by rwa [h.bufferSize, hm]), h.reject _ _⟩
    · refine ⟨_, exec_hashVar_accepts (haccepts ha) (by rwa [h.bufferSize, hm]), ?_⟩
      rw [hm]
      exact haccept c _
  case hashFull c =>
    rcases exec_hashFull_cases hx with ⟨hb, rfl⟩ | ⟨hb, rfl⟩ | ⟨ha, rfl⟩
    · exact ⟨s', congrArg Host.Outcome.next (issueGate_aborted (hstate.trans hb)), h⟩
    · exact ⟨_, congrArg Host.Outcome.next (issueGate_busy (hstate.trans hb)), h.overrun⟩
    · refine ⟨_, exec_hashFull_accepts (haccepts ha), ?_⟩
      rw [hcap]
      exact haccept c _
  all_goals cases hf

/-- The footprint of an instruction. -/
theorem exec_agree {i : Instr} {t : State} (h : Agree L s s') (hL : reads s.checked i ⊆ L)
    (hx : exec i s = .next t) : ∃ t', exec i s' = .next t' ∧ Agree L t t' := by
  rcases format_cases i with hf | hf
  · exact exec_command_agree hf h hL hx
  · obtain ⟨t', hx', ha | ⟨-, ha⟩⟩ := exec_micro_agree hf h hL hx
    · exact ⟨t', hx', ha.mono (List.subset_append_right _ _)⟩
    · exact ⟨t', hx', ha⟩

/-- A data register outside the footprint reaches no other field. -/
theorem exec_of_not_read {i : Instr} {t : State} {q : DataReg} (hq : q ∉ reads s.checked i)
    (hc : s'.control = s.control) (hd : ∀ r, r ≠ q → s'.data r = s.data r) (hx : exec i s = .next t) :
    ∃ t', exec i s' = .next t' ∧ t'.control = t.control ∧ ∀ r, r ≠ q → t'.data r = t.data r := by
  have h : Agree (allBut q) s s' := ⟨hc, fun r hr => hd r (mem_allBut.mp hr)⟩
  have hL : reads s.checked i ⊆ allBut q := fun r hr => mem_allBut.mpr fun he => hq (he ▸ hr)
  obtain ⟨t', hx', ha⟩ := exec_agree h hL hx
  exact ⟨t', hx', ha.control, fun r hr => ha.data r (mem_allBut.mpr hr)⟩

end

end Sys2Proof.Machine
end

section
/-! SUPPORT. The order of UPROG(N), by which every register is written before it is read within one command
(70_reset_and_hazards.md R283). -/

namespace Sys2Proof.Machine

/-- `Follows i j`: `j` stands right after `i` in some UPROG(N) (R104). -/
inductive Follows : Instr → Instr → Prop
  | initBuild : Follows .init (.build 0)
  | initPtrwrap : Follows .init .ptrwrap
  | buildVblk (w : Nat) : Follows (.build w) (.vblk w)
  | vblkSel (w : Nat) : Follows (.vblk w) (.sel w)
  | selPack (w : Nat) : Follows (.sel w) .pack
  | selPtrwrap (w : Nat) : Follows (.sel w) .ptrwrap
  | packCmpb (w : Nat) : Follows .pack (.cmpb w)
  | cmpbBuild (w : Nat) : Follows (.cmpb w) (.build (w + 1))
  | cmpbPtrwrap (w : Nat) : Follows (.cmpb w) .ptrwrap
  | ptrwrapTerm : Follows .ptrwrap .term
  | termPack : Follows .term .pack
  | packFlush : Follows .pack .flush
  | flushAttlen : Follows .flush .attlen
  | attlenVlen : Follows .attlen .vlen
  | vlenPack : Follows .vlen .pack
  | packCmpu : Follows .pack .cmpu
  | cmpuDigest : Follows .cmpu .digest

/-- Where a window's group would start stands its BUILD, or the padding begins. -/
theorem fetchInstr_windowStart {n w : Nat} (hw : w ≤ n / 64) :
    fetchInstr n (1 + 5 * w) = some (.build w) ∨ fetchInstr n (1 + 5 * w) = some .ptrwrap := by
  by_cases hlt : w < n / 64
  · exact .inl (fetchInstr_window (r := 0) hlt (by omega))
  · obtain rfl : w = n / 64 := by omega
    by_cases hn : n % 64 = 0
    · right
      have hpad := fetchInstr_padding n 0
      rwa [paddingStart, if_pos hn] at hpad
    · left
      have htail := fetchInstr_tail (r := 0) hn (by omega)
      rwa [tailGroup, if_neg hn] at htail

/-- Two neighbours of UPROG(N) are in one of the orders of R104. -/
theorem follows_of_fetch {n k : Nat} {i j : Instr} (hi : fetchInstr n k = some i)
    (hj : fetchInstr n (k + 1) = some j) : Follows i j := by
  rcases index_cases (fetchInstr_lt hi) with rfl | ⟨w, r, hw, hr, rfl⟩ | ⟨hn, r, hr, rfl⟩ | ⟨r, hr, rfl⟩
  · obtain rfl : .init = i := Option.some.inj hi
    rcases fetchInstr_windowStart (Nat.zero_le (n / 64)) with h | h <;> cases h.symm.trans hj
    · exact .initBuild
    · exact .initPtrwrap
  · rw [fetchInstr_window hw hr] at hi
    by_cases hr4 : r = 4
    · subst hr4
      cases hi
      rcases fetchInstr_windowStart (Nat.succ_le_of_lt hw) with h | h <;> cases h.symm.trans hj
      · exact .cmpbBuild w
      · exact .cmpbPtrwrap w
    · rw [Nat.add_assoc, fetchInstr_window hw (by omega)] at hj
      obtain rfl | rfl | rfl | rfl : r = 0 ∨ r = 1 ∨ r = 2 ∨ r = 3 := by omega
      all_goals
        cases hi
        cases hj
      · exact .buildVblk w
      · exact .vblkSel w
      · exact .selPack w
      · exact .packCmpb w
  · have htail : tailGroup n = [.build (n / 64), .vblk (n / 64), .sel (n / 64)] := if_neg hn
    rw [fetchInstr_tail hn hr, htail] at hi
    by_cases hr2 : r = 2
    · subst hr2
      have hpad := fetchInstr_padding n 0
      rw [paddingStart, if_neg hn] at hpad
      cases hi
      cases hpad.symm.trans hj
      exact .selPtrwrap _
    · rw [Nat.add_assoc, fetchInstr_tail hn (by omega), htail] at hj
      obtain rfl | rfl : r = 0 ∨ r = 1 := by omega
      all_goals
        cases hi
        cases hj
      · exact .buildVblk _
      · exact .vblkSel _
  · rw [fetchInstr_padding] at hi
    rw [Nat.add_assoc, fetchInstr_padding] at hj
    interval_cases r <;> cases hi <;> cases hj
    · exact .ptrwrapTerm
    · exact .termPack
    · exact .packFlush
    · exact .flushAttlen
    · exact .attlenVlen
    · exact .vlenPack
    · exact .packCmpu
    · exact .cmpuDigest

/-- The data registers that hold a value of the running command before a micro-operation, with the buffer, which the
host filled before (the table of R283). -/
def settled (checked : Bool) : Instr → List DataReg
  | .hashVar _ => []
  | .hashFull _ => []
  | .init => [.buffer]
  | .build _ => [.buffer, .h, .blk, .ptr]
  | .vblk _ => [.hblk, .hptr, .buffer, .h, .blk, .ptr]
  | .sel _ =>
    if checked then [.vptr, .hblk, .hptr, .buffer, .h, .blk, .ptr] else [.hblk, .hptr, .buffer, .h, .blk, .ptr]
  | .pack => [.buffer, .h, .blk, .ptr]
  | .cmpb _ => [.w, .buffer, .h, .blk, .ptr]
  | .ptrwrap => [.buffer, .h, .blk, .ptr]
  | .term => [.buffer, .h, .blk, .ptr]
  | .flush => [.w, .buffer, .h, .blk, .ptr]
  | .attlen => [.buffer, .h, .blk, .ptr]
  | .vlen => [.last, .buffer, .h, .blk, .ptr]
  | .cmpu => [.w, .buffer, .h, .blk, .ptr]
  | .digest => [.buffer, .h, .blk, .ptr]

/-- A micro-operation reads what the running command has settled. -/
theorem reads_subset_settled {i : Instr} (hf : i.format = .uop32) (c : Bool) : reads c i ⊆ settled c i := by
  cases i
  case hashVar | hashFull => cases hf
  all_goals cases c <;> simp [reads, settled]

/-- What is settled before a micro-operation was settled before the one it follows, or that one wrote it. -/
theorem settled_subset_of_follows {i j : Instr} (h : Follows i j) (c : Bool) :
    settled c j ⊆ written c i ++ settled c i := by
  cases h <;> cases c <;> simp [settled, written]

end Sys2Proof.Machine
end

section
/-! SUPPORT. Two runs of one command from different data registers (10_state.md R41). -/

namespace Sys2Proof.Machine

/-- Two runs step alike when every step of the first from related states has one of the second to related states. -/
theorem run_simulation {R : State → State → Prop}
    (hR : ∀ s s' t, R s s' → step s = .next t → ∃ t', step s' = .next t' ∧ R t t') {k : Nat} {s s' t : State}
    (hs : R s s') (h : Sys2Proof.core.run k s = .next t) : ∃ t', Sys2Proof.core.run k s' = .next t' ∧ R t t' := by
  induction k generalizing s s' with
  | zero =>
    cases h
    exact ⟨s', rfl, hs⟩
  | succ k ih =>
    obtain ⟨r, hr, h⟩ := run_first h
    obtain ⟨r', hr', hrel⟩ := hR s s' r hs hr
    obtain ⟨t', ht', hrel'⟩ := ih hrel h
    exact ⟨t', (run_next hr').trans ht', hrel'⟩

/-- Two blocks in the same command with the host doing nothing: they agree on every field but the data registers, while
BUSY also on those the command has settled, and in DONE on D. -/
structure SameCommand (s s' : State) : Prop where
  control : s'.control = s.control
  hostIdle : s.hostActions = []
  busy : s.blockState = .busy → ∀ i, fetchInstr s.bufferSize s.upc.toNat = some i →
    Agree (settled s.checked i) s s'
  done : s.blockState = .done → s'.digest = s.digest

/-- A BUSY step with the host idle performs the micro-operation at UPC (R107). -/
theorem step_eq_exec {s : State} {i : Instr} (ha : s.hostActions = []) (hb : s.blockState = .busy)
    (hi : fetchInstr s.bufferSize s.upc.toNat = some i) : Machine.step s = exec i s := by
  have hword : fetchWord s.bufferSize s.upc.toNat = some (encode i) := by rw [fetchWord, hi]; rfl
  rw [step_of_nil ha]
  exact sequencerStep_of_fetch hb hword
    (decodeMicro_encode (fetchInstr_format hi) (fetchInstr_wellFormed s.capacity.isLt hi))

theorem exec_of_busy_step {s t : State} (ha : s.hostActions = []) (hb : s.blockState = .busy)
    (hx : Machine.step s = .next t) :
    ∃ i, fetchInstr s.bufferSize s.upc.toNat = some i ∧ exec i s = .next t := by
  have hseq := hx
  rw [step_of_nil ha] at hseq
  rcases sequencerStep_cases hseq with ⟨hn, -⟩ | ⟨-, u, -, hu, -⟩
  · exact absurd hb hn
  · obtain ⟨i, hi, -⟩ := Option.map_eq_some_iff.mp hu
    exact ⟨i, hi, (step_eq_exec ha hb hi).symm.trans hx⟩

/-- UPC does not wrap along UPROG(N) (R106). -/
theorem upc_succ_toNat {s : State} (h : s.upc.toNat < programLength s.bufferSize) :
    (s.upc + 1).toNat = s.upc.toNat + 1 := by
  have hcap : s.bufferSize < 2 ^ 32 := s.capacity.isLt
  have hlen : programLength s.bufferSize ≤ 1 + 5 * (s.bufferSize / 64) + 3 + 9 := by
    unfold programLength
    split <;> omega
  rw [BitVec.toNat_add]
  exact Nat.mod_eq_of_lt (show s.upc.toNat + 1 < 2 ^ 32 by omega)

theorem SameCommand.bufferSize {s s' : State} (h : SameCommand s s') : s'.bufferSize = s.bufferSize :=
  congrArg (fun c => c.capacity.toNat) h.control

theorem SameCommand.upc {s s' : State} (h : SameCommand s s') : s'.upc = s.upc := congrArg Control.upc h.control

theorem SameCommand.blockState {s s' : State} (h : SameCommand s s') : s'.blockState = s.blockState :=
  congrArg Control.blockState h.control

theorem SameCommand.hostIdle_right {s s' : State} (h : SameCommand s s') : s'.hostActions = [] :=
  (congrArg Control.hostActions h.control).trans h.hostIdle

/-- The micro-operation at UPC keeps two blocks in the same command. -/
theorem SameCommand.exec {s s' t : State} {i : Instr} (h : SameCommand s s') (hb : s.blockState = .busy)
    (hi : fetchInstr s.bufferSize s.upc.toNat = some i) (hx : exec i s = .next t) :
    ∃ t', exec i s' = .next t' ∧ SameCommand t t' := by
  have hf := fetchInstr_format hi
  obtain ⟨t', hx', hagree⟩ := exec_micro_agree hf (h.busy hb i hi) (reads_subset_settled hf _) hx
  refine ⟨t', hx', ?_⟩
  rcases exec_micro_cases hf hx with hc | ⟨-, -, c, n, rfl⟩
  · have hna : t.blockState ≠ .aborted := by
      rw [hc.blockState, hb]
      cases i <;> exact nofun
    have ha := hagree.resolve_right fun hr => hna hr.1
    refine ⟨ha.control, hc.hostActions.trans h.hostIdle, fun _ j hj => ?_, fun hd => ?_⟩
    · rw [State.bufferSize, hc.capacity, hc.upc, upc_succ_toNat (fetchInstr_lt hi)] at hj
      rw [hc.checked]
      exact ha.mono (settled_subset_of_follows (follows_of_fetch hi hj) _)
    · have hdigest : i = .digest := by
        by_contra hne
        rw [hc.blockState, stateAfter_of_ne hne, hb] at hd
        cases hd
      subst hdigest
      exact ha.data .digest (by simp [written])
  · have hcontrol : t'.control = (s.abort c n).control := hagree.elim (fun ha => ha.control) fun ha => ha.2.control
    exact ⟨hcontrol, h.hostIdle, nofun, nofun⟩

theorem SameCommand.step {s s' t : State} (h : SameCommand s s') (hx : step s = .next t) :
    ∃ t', step s' = .next t' ∧ SameCommand t t' := by
  by_cases hb : s.blockState = .busy
  · obtain ⟨i, hi, hxi⟩ := exec_of_busy_step h.hostIdle hb hx
    obtain ⟨t', hx', hrel⟩ := h.exec hb hi hxi
    have hi' : fetchInstr s'.bufferSize s'.upc.toNat = some i := by rwa [h.bufferSize, h.upc]
    exact ⟨t', (step_eq_exec h.hostIdle_right (h.blockState.trans hb) hi').trans hx', hrel⟩
  · have hstay : ∀ u : State, u.hostActions = [] → u.blockState ≠ .busy → Machine.step u = .next u :=
      fun u hu hn => (step_of_nil hu).trans (sequencerStep_of_not_busy hn)
    cases (hstay s h.hostIdle hb).symm.trans hx
    exact ⟨s', hstay s' h.hostIdle_right (h.blockState ▸ hb), h⟩

/-- A command that was just accepted has settled nothing but the buffer: INIT comes first and reads no register. -/
theorem sameCommand_of_justAccepted {s s' : State} (h : JustAccepted s) (hc : s'.control = s.control)
    (hbuf : s'.buffer = s.buffer) : SameCommand s s' := by
  obtain ⟨hb, hupc, -, ha⟩ := h
  refine ⟨hc, ha, fun _ i hi => ?_, fun hd => ?_⟩
  · rw [hupc] at hi
    obtain rfl : .init = i := Option.some.inj hi
    exact ⟨hc, fun r hr => by obtain rfl := List.mem_singleton.mp hr; exact hbuf⟩
  · rw [hb] at hd
    cases hd

theorem statusWord_of_control {s s' : State} (h : s'.control = s.control) : statusWord s' = statusWord s := by
  have hmode : s'.mode = s.mode := congrArg Control.mode h
  have hcause : s'.cause = s.cause := congrArg Control.cause h
  have hovr : s'.ovr = s.ovr := congrArg Control.ovr h
  have hstate : s'.blockState = s.blockState := congrArg Control.blockState h
  rw [statusWord, statusWord, hmode, hcause, hovr, hstate]

end Sys2Proof.Machine
end

section
/-! SUPPORT. The statements about the architectural state (10_state.md). -/

namespace Sys2Proof.Machine

/-- Settles O60, by a simulation between the two runs: at every step they agree on what the command has settled. -/
theorem earlierCommandsLeaveNoTrace : Obligations.EarlierCommandsLeaveNoTrace := by
  intro s t k h blk hblk last w ptr hptr vptr digest hs hrun
  have hcommand : SameCommand s { s with
      h := h, blk := blk, hblk := hblk, last := last, w := w, ptr := ptr, hptr := hptr, vptr := vptr,
      digest := digest } := sameCommand_of_justAccepted hs rfl rfl
  obtain ⟨t', hrun', hrel⟩ := run_simulation (fun _ _ _ hr hx => SameCommand.step hr hx) hcommand hrun
  exact ⟨t', hrun', statusWord_of_control hrel.control, congrArg Control.info hrel.control, hrel.upc, hrel.done⟩

/-- The writers of each data register, as the lists of `written` give them. -/
theorem written_writers (c : Bool) (i : Instr) :
    (.h ∈ written c i → i = .init ∨ (∃ n, i = .cmpb n) ∨ i = .flush ∨ i = .cmpu) ∧
    (.blk ∈ written c i → i = .init ∨ (∃ n, i = .sel n) ∨ i = .term ∨ i = .attlen) ∧
    (.ptr ∈ written c i → i = .init ∨ (∃ n, i = .sel n) ∨ i = .ptrwrap ∨ i = .term ∨ i = .flush) ∧
    (.w ∈ written c i → i = .pack) ∧
    (.hblk ∈ written c i ∨ .hptr ∈ written c i → ∃ n, i = .build n) ∧
    (.vptr ∈ written c i → (∃ n, i = .vblk n) ∧ c = true) ∧
    (.last ∈ written c i → i = .attlen) ∧
    (.digest ∈ written c i → i = .digest ∨ i.format = .cmd32) := by
  cases i <;> cases c <;> simp [written, Instr.format]

/-- No instruction writes a host input (R27, R51). -/
theorem written_inputs (c : Bool) (i : Instr) : .msgSize ∉ written c i ∧ .buffer ∉ written c i := by
  cases i <;> cases c <;> simp [written]

theorem exec_digest_writers {i : Instr} {s t : State} (h : exec i s = .next t) (hd : t.digest ≠ s.digest) :
    i = .digest ∨ (i.format = .cmd32 ∧ t.blockState = .busy) := by
  obtain ⟨-, -, -, -, -, -, -, hdigest⟩ := written_writers s.checked i
  refine (hdigest (mem_written_of_ne (r := .digest) h hd)).imp_right fun hf => ⟨hf, ?_⟩
  rcases exec_command_cases hf h with rfl | rfl | rfl | ⟨c, n, rfl⟩
  · exact absurd rfl hd
  · exact absurd rfl hd
  · exact absurd rfl hd
  · rfl

theorem exec_status_writers {i : Instr} {s t : State} (h : exec i s = .next t) :
    (t.size ≠ s.size ∨ t.checked ≠ s.checked ∨ t.mode ≠ s.mode → i.format = .cmd32) ∧
    (t.upc ≠ s.upc → (i.format = .uop32 ∧ t.upc = s.upc + 1) ∨
      (i.format = .cmd32 ∧ t.blockState = .busy ∧ t.upc = 0)) ∧
    (t.blockState ≠ s.blockState → (i.format = .cmd32 ∧ (t.blockState = .busy ∨ t.blockState = .rejected)) ∨
      (i = .digest ∧ t.blockState = .done) ∨
      (((∃ n, i = .vblk n) ∨ i = .vlen) ∧ s.checked = true ∧ t.blockState = .aborted)) ∧
    (t.ovr ≠ s.ovr → i.format = .cmd32) ∧
    (t.cause ≠ s.cause ∨ t.info ≠ s.info → i.format = .cmd32 ∨
      (((∃ n, i = .vblk n) ∨ i = .vlen) ∧ s.checked = true ∧ t.blockState = .aborted)) := by
  rcases format_cases i with hf | hf
  · rcases exec_command_cases hf h with rfl | rfl | rfl | ⟨c, n, rfl⟩ <;> simp [hf]
  · rcases exec_micro_cases hf h with hc | ⟨hi, hc, c, n, rfl⟩
    · have hstate : t.blockState ≠ s.blockState → i = .digest ∧ t.blockState = .done := fun hne => by
        by_cases hi : i = .digest
        · exact ⟨hi, by rw [hc.blockState, hi, stateAfter]⟩
        · exact absurd (hc.blockState.trans (stateAfter_of_ne hi _)) hne
      refine ⟨?_, fun _ => .inl ⟨hf, hc.upc⟩, fun hne => .inr (.inl (hstate hne)), ?_, ?_⟩
      · simp [hc.size, hc.checked, hc.mode]
      · simp [hc.ovr]
      · simp [hc.cause, hc.info]
    · simp [hi, hc]

/-- Settles O43: a register that is not in an instruction's list of written ones is as before, and the fields of
STATUS, INFO and UPC go by what a command and a micro-operation can do. -/
theorem everyRegisterHasItsWriters : Obligations.EveryRegisterHasItsWriters := by
  intro i s t h
  have hmem : ∀ r, t.data r ≠ s.data r → r ∈ written s.checked i := fun r => mem_written_of_ne h
  obtain ⟨hh, hblk, hptr, hw, hhint, hvptr, hlast, -⟩ := written_writers s.checked i
  obtain ⟨hsize, hupc, hstate, hovr, hcause⟩ := exec_status_writers h
  exact ⟨hsize, fun hne => hh (hmem .h hne), fun hne => hblk (hmem .blk hne), fun hne => hptr (hmem .ptr hne),
    fun hne => hw (hmem .w hne), fun hne => hhint (hne.imp (hmem .hblk) (hmem .hptr)),
    fun hne => hvptr (hmem .vptr hne), fun hne => hlast (hmem .last hne), exec_digest_writers h, hupc, hstate, hovr,
    hcause⟩

/-- MSG_SIZE is in the footprint of HASH_VAR alone (R27, R111). -/
theorem msgSize_not_read {i : Instr} (hi : ∀ c, i ≠ .hashVar c) (c : Bool) : .msgSize ∉ reads c i := by
  cases i
  case hashVar c => exact absurd rfl (hi c)
  all_goals cases c <;> simp [reads]

/-- Settles O45: MSG_SIZE is in the footprint of HASH_VAR alone, and no instruction writes it. -/
theorem onlyHashVarReadsMsgSize : Obligations.OnlyHashVarReadsMsgSize := by
  intro i s t v hi h
  have hdrive : ∀ r, r ≠ .msgSize → (s.driveMsgSize v).data r = s.data r := fun r hr => by simp [hr]
  obtain ⟨t', h', hc, hd⟩ := exec_of_not_read (s := s) (s' := s.driveMsgSize v) (msgSize_not_read hi _) rfl hdrive h
  have hv : t'.msgSize = v := exec_frame (r := .msgSize) h' (written_inputs _ _).1
  refine h'.trans (congrArg Host.Outcome.next (State.eq_of_control_data (s := t.driveMsgSize v) hc fun r => ?_))
  by_cases hr : r = .msgSize
  · subst hr
    exact hv
  · simpa [hr] using hd r hr

/-- Settles O8, by the host's next action; the fetch is read off the list of R104. -/
theorem stepRunsTheDecodedInstruction : Obligations.StepRunsTheDecodedInstruction := by
  refine ⟨fun s w i rest ha hd => ?_, fun s u i rest hb hu hd => ?_, fun s rest hb => ?_⟩
  · rw [step_of_writeReg ha]
    exact issueWord_of_decode hd
  · rw [← fetchWord_eq_getElem?] at hu
    refine ⟨fun ha => ?_, fun ha => ?_, fun ha => ?_⟩
    · rw [step_of_nil ha, sequencerStep_of_fetch hb hu hd]
    · rw [step_of_idle ha]
      exact sequencerStep_of_fetch hb hu hd
    · rw [step_of_wait ha, waitStep, if_pos hb, sequencerStep_of_fetch hb hu hd]
  · refine ⟨fun ha => ?_, fun ha => ?_, fun ha => ?_⟩
    · rw [step_of_nil ha, sequencerStep_of_not_busy hb]
    · rw [step_of_idle ha]
      exact sequencerStep_of_not_busy hb
    · rw [step_of_wait ha, waitStep, if_neg hb]
      rfl

/-- Settles O49: the read port by STATE; a word read is the big-endian number of its bytes. -/
theorem digestIsReadOnlyWhenDone : Obligations.DigestIsReadOnlyWhenDone := by
  refine fun s => ⟨fun hd => ⟨?_, ?_, ?_, ?_⟩, fun hd => ⟨?_, ?_, ?_, ?_⟩⟩
  · exact hostRead_digestByte_stops hd
  · exact hostRead_digestWord_stops hd
  · exact fun j rest ha => (step_of_readReg ha).trans (readPort_of_error (hostRead_digestByte_stops hd j))
  · exact fun j rest ha => (step_of_readReg ha).trans (readPort_of_error (hostRead_digestWord_stops hd j))
  · refine fun j => ⟨_, hostRead_digestByte_done hd j, ?_⟩
    exact BitVec.toNat_setWidth_of_le (by omega)
  · exact fun j => ⟨_, hostRead_digestWord_done hd j, be32_toNat _ _ _ _⟩
  · exact fun j rest ha => (step_of_readReg ha).trans (readPort_of_ok (hostRead_digestByte_done hd j))
  · exact fun j rest ha => (step_of_readReg ha).trans (readPort_of_ok (hostRead_digestWord_done hd j))

/-- Settles O50: the ports by register, and the fields of STATUS read off its value as a number. -/
theorem hostSeesTheRegisters : Obligations.HostSeesTheRegisters := by
  refine fun s => ⟨rfl, rfl, rfl, ?_, ?_, ?_, ?_, statusWord s, rfl, ?_⟩
  · intro v rest ha
    rw [step_of_writeReg ha]
    rfl
  · intro r v rest hr ha
    have hne : r ≠ .cmd := by rcases hr with rfl | rfl | ⟨j, rfl⟩ | ⟨j, rfl⟩ <;> exact nofun
    rw [step_of_writeReg ha]
    exact writePort_of_ne_cmd hne v
  · intro r rest ha hb hw
    obtain ⟨w, hr⟩ := hostRead_isOk (s := s.withActions rest) hb hw
    rw [step_of_readReg ha]
    exact readPort_of_ok hr
  · exact fun v rest ha => step_of_driveMsgSize ha
  · obtain ⟨hstate, hovr, hcause, hmode, hlt⟩ := statusWord_fields s
    refine ⟨hstate.trans ?_, hovr, hcause.trans ?_, hmode, hlt⟩
    · cases s.blockState <;> rfl
    · cases s.cause <;> rfl

end Sys2Proof.Machine
end

section
/-! SUPPORT. The buffer, the parameters and the host inputs as no instruction's to write (10_state.md R20, R29;
20_memory.md R51, R56), and the host's write port of the buffer (R50, R58). -/

namespace Sys2Proof.Machine

theorem Completes.hintSource {i : Instr} {s t : State} (h : Completes i s t) : t.hintSource = s.hintSource :=
  congrArg Control.hintSource h

theorem KeepsInputs.refl (s : State) : KeepsInputs s s := ⟨rfl, rfl, rfl, rfl, rfl⟩

theorem KeepsInputs.keepsMemory {s t : State} (h : KeepsInputs s t) : KeepsMemory s t := by
  obtain ⟨hcap, -, hbuf, -, -⟩ := h
  exact memRead_congr hcap hbuf

/-- The two host inputs are data registers that no instruction writes; the parameters and the host's actions are
fields that neither a completion, an abort nor a command touches. -/
theorem exec_keepsInputs {i : Instr} {s t : State} (h : exec i s = .next t) : KeepsInputs s t := by
  obtain ⟨hmsg, hbuf⟩ := written_inputs s.checked i
  have hcontrol : t.capacity = s.capacity ∧ t.hintSource = s.hintSource ∧ t.hostActions = s.hostActions := by
    rcases format_cases i with hf | hf
    · rcases exec_command_cases hf h with rfl | rfl | rfl | ⟨c, n, rfl⟩ <;> simp
    · rcases exec_micro_cases hf h with hc | ⟨-, -, c, n, rfl⟩
      · exact ⟨hc.capacity, hc.hintSource, hc.hostActions⟩
      · simp
  obtain ⟨hcap, hsource, hactions⟩ := hcontrol
  exact ⟨hcap, hsource, exec_frame (r := .buffer) h hbuf, exec_frame (r := .msgSize) h hmsg, hactions⟩

theorem sequencerStep_keepsInputs {s t : State} (h : sequencerStep exec s = .next t) : KeepsInputs s t := by
  rcases sequencerStep_cases h with ⟨-, rfl⟩ | ⟨-, u, i, -, -, hx⟩
  · exact .refl t
  · exact exec_keepsInputs hx

theorem issueWord_keepsInputs {w : Word} {s t : State} (h : issueWord exec w s = .next t) : KeepsInputs s t := by
  rcases issueWord_cases h with ⟨i, -, hx⟩ | ⟨-, rfl⟩
  · exact exec_keepsInputs hx
  · rcases issueGate_cases s fun r => r.reject .illegalCmd w with ⟨-, hg⟩ | ⟨-, hg⟩ | ⟨-, hg⟩ <;> rw [hg] <;>
      exact ⟨rfl, rfl, rfl, rfl, rfl⟩

/-- No step changes the parameters, and only a host write outside BUSY changes the buffer. -/
theorem step_keeps_parameters_and_busy_buffer {s t : State} (h : step s = .next t) :
    t.capacity = s.capacity ∧ t.hintSource = s.hintSource ∧ (s.blockState = .busy → t.buffer = s.buffer) := by
  have hkept : ∀ {as}, KeepsInputs (s.withActions as) t →
      t.capacity = s.capacity ∧ t.hintSource = s.hintSource ∧ (s.blockState = .busy → t.buffer = s.buffer) :=
    fun ⟨hcap, hsource, hbuf, _, _⟩ => ⟨hcap, hsource, fun _ => hbuf⟩
  rcases step_cases h with ⟨as, hx⟩ | ⟨as, rfl⟩ | ⟨as, rfl⟩ | ⟨as, v, rfl⟩ | ⟨as, k, b, hb, -, rfl⟩ | ⟨as, w, hx⟩
  · exact hkept (sequencerStep_keepsInputs hx)
  · exact hkept (.refl _)
  · exact ⟨rfl, rfl, fun _ => rfl⟩
  · exact ⟨rfl, rfl, fun _ => rfl⟩
  · exact ⟨rfl, rfl, fun hbusy => absurd hbusy hb⟩
  · exact hkept (issueWord_keepsInputs hx)

/-! A data register that an instruction neither reads nor writes. -/

/-- The state with one data register set to a value. -/
def State.setData (s : State) (q : DataReg) (v : q.Value) : State :=
  State.ofParts s.control (Function.update s.data q v)

theorem State.setData_buffer (s : State) (b : List Host.Cell) : s.setData .buffer b = { s with buffer := b } := rfl

theorem State.data_setData (s : State) (q : DataReg) (v : q.Value) :
    (s.setData q v).data = Function.update s.data q v := by funext r; cases r <;> rfl

/-- Another value of such a register is carried along and reaches nothing else. -/
theorem exec_setData {i : Instr} {s t : State} {q : DataReg} (v : q.Value) (hr : q ∉ reads s.checked i)
    (hw : q ∉ written s.checked i) (h : exec i s = .next t) : exec i (s.setData q v) = .next (t.setData q v) := by
  have hother : ∀ r, r ≠ q → (s.setData q v).data r = s.data r := fun r hne => by
    rw [State.data_setData, Function.update_of_ne hne]
  obtain ⟨t', h', hcontrol, hdata⟩ := exec_of_not_read (s' := s.setData q v) hr rfl hother h
  rw [h']
  refine congrArg Host.Outcome.next (State.eq_of_control_data hcontrol fun r => ?_)
  rw [State.data_setData]
  by_cases hrq : r = q
  · subst hrq
    rw [exec_frame h' hw, State.data_setData, Function.update_self, Function.update_self]
  · rw [Function.update_of_ne hrq, hdata r hrq]

/-- The buffer is in the footprint of BUILD and of VBLK in checked mode alone (R52). -/
theorem buffer_not_read {i : Instr} {c : Bool} (hbuild : ∀ n, i ≠ .build n)
    (hvblk : (∀ n, i ≠ .vblk n) ∨ c = false) : .buffer ∉ reads c i := by
  cases i
  case build n => exact absurd rfl (hbuild n)
  case vblk n =>
    rcases hvblk with hne | rfl
    · exact absurd rfl (hne n)
    · simp [reads]
  all_goals cases c <;> simp [reads]

/-! The host's write port of the buffer. -/

theorem step_of_writeBuffer {s : State} {rest : List HostAction} {k : Nat} {b : Byte}
    (ha : s.hostActions = .writeBuffer k b :: rest) : step s = writeBufferPort k b (s.withActions rest) := by
  simp only [step, machineStep, ha]

theorem writeBufferPort_of_busy {s : State} (hb : s.blockState = .busy) (k : Nat) (b : Byte) :
    writeBufferPort k b s = .refused .bufferWriteWhileBusy := if_pos hb

theorem writeBufferPort_of_lt {s : State} {k : Nat} (hb : s.blockState ≠ .busy) (hk : k < s.bufferSize) (b : Byte) :
    writeBufferPort k b s = .next (s.writeBuffer k b) := by
  rw [writeBufferPort, if_neg hb, if_pos hk]

theorem writeBufferPort_of_le {s : State} {k : Nat} (hb : s.blockState ≠ .busy) (hk : s.bufferSize ≤ k) (b : Byte) :
    writeBufferPort k b s = .fault (.bufferIndexOutOfRange k) := by
  rw [writeBufferPort, if_neg hb, if_neg (Nat.not_lt.mpr hk)]

theorem memRead_writeBuffer_same {s : State} {k : Nat} (hwf : Memory.wf s.buffer = true) (hk : k < s.bufferSize)
    (b : Byte) : memRead (s.writeBuffer k b) k = some b := by
  rw [memRead_of_lt (s := s.writeBuffer k b) hk, State.writeBuffer_buffer, Memory.lookup_store_same k b hwf]

theorem memRead_writeBuffer_other {s : State} {k k' : Nat} (hwf : Memory.wf s.buffer = true) (hne : k' ≠ k)
    (b : Byte) : memRead (s.writeBuffer k b) k' = memRead s k' := by
  by_cases hk : k' < s.bufferSize
  · rw [memRead_of_lt hk, memRead_of_lt (s := s.writeBuffer k b) hk, State.writeBuffer_buffer,
      Memory.lookup_store_other b hne hwf]
  · have hle : s.bufferSize ≤ k' := Nat.le_of_not_lt hk
    rw [memRead_of_le hle, memRead_of_le (s := s.writeBuffer k b) hle]

end Sys2Proof.Machine
end

section
/-! SUPPORT. Where a micro-operation has a next state: the bounds under which no read leaves the buffer and no pointer
leaves its block (20_memory.md R51; 42_length_padding.md R162). -/

namespace Sys2Proof.Machine

theorem settleTests_exists_next {s ok : State} {v : Option TestFailure} (h : ∀ f, v ≠ some (.fault f)) :
    ∃ t, settleTests s v ok = .next t := by
  rcases v with - | ⟨c, n⟩ | f
  · exact ⟨_, rfl⟩
  · exact ⟨_, rfl⟩
  · exact absurd rfl (h f)

/-- With SIZE at most `N` a test of VBLK reads bytes of the buffer alone. -/
theorem windowTest_ne_fault {s : State} (hsize : s.size.toNat ≤ s.bufferSize) (i : Nat) (j : Fin 64) (f : Fault) :
    windowTest s i j ≠ some (.fault f) := by
  unfold windowTest windowOffset
  simp only [lt_windowCount_iff]
  split
  · next hj =>
    rw [memRead_of_lt (Nat.lt_of_lt_of_le hj hsize)]
    dsimp only
    split <;> exact nofun
  · split
    · exact nofun
    · split
      · exact nofun
      · split <;> exact nofun

theorem windowVerdict_ne_fault {s : State} (hsize : s.size.toNat ≤ s.bufferSize) (i : Nat) (f : Fault) :
    windowVerdict s i ≠ some (.fault f) := fun h => by
  obtain ⟨j, -, hj⟩ := List.exists_of_findSome?_eq_some h
  exact windowTest_ne_fault hsize i j f hj

theorem trailerTest_ne_fault (s : State) (f : Fault) : trailerTest s ≠ some (.fault f) := by
  unfold trailerTest
  split <;> exact nofun

theorem prefixTest_ne_fault (s : State) (f : Fault) : prefixTest s ≠ some (.fault f) := fun h => by
  obtain ⟨j, -, hj⟩ := List.exists_of_findSome?_eq_some h
  split at hj <;> cases hj

theorem fillTest_ne_fault (s : State) (f : Fault) : fillTest s ≠ some (.fault f) := fun h => by
  obtain ⟨j, -, hj⟩ := List.exists_of_findSome?_eq_some h
  split at hj <;> cases hj

/-- With PTR at most 64 the tests of VLEN read bytes of BLK alone. -/
theorem lengthVerdict_ne_fault {s : State} (hptr : s.ptr.toNat ≤ 64) (f : Fault) :
    lengthVerdict s ≠ some (.fault f) := by
  rw [lengthVerdict, (pastBlockTest_none_iff s).mpr hptr, Option.or_none]
  simp only [ne_eq, Option.or_eq_some_iff, trailerTest_ne_fault, prefixTest_ne_fault, fillTest_ne_fault, and_false,
    or_false, not_false_eq_true]

/-- A micro-operation stops only on a SIZE above `N`, a PTR above 64, or TERM on a PTR above 63 (R51, R162). -/
theorem exec_micro_exists_next {i : Instr} {s : State} (hf : i.format = .uop32)
    (hsize : s.size.toNat ≤ s.bufferSize) (hptr : s.ptr.toNat ≤ 64) (hterm : i = .term → s.ptr.toNat < 64) :
    ∃ t, exec i s = .next t := by
  cases i
  case hashVar | hashFull => cases hf
  case build n => exact ⟨_, if_pos (windowReadable_of_size_le n hsize)⟩
  case vblk n =>
    by_cases hc : s.checked = true
    · rw [exec_vblk_checked n hc]
      exact settleTests_exists_next (windowVerdict_ne_fault hsize n)
    · exact ⟨_, exec_vblk_unchecked n (Bool.eq_false_of_not_eq_true hc)⟩
  case term => exact ⟨_, exec_term_eq (hterm rfl)⟩
  case vlen =>
    by_cases hc : s.checked = true
    · rw [exec_vlen_checked hc]
      exact settleTests_exists_next (lengthVerdict_ne_fault hptr)
    · exact ⟨_, exec_vlen_unchecked (Bool.eq_false_of_not_eq_true hc)⟩
  case init | sel | pack | cmpb | ptrwrap | flush | attlen | cmpu | digest => exact ⟨_, rfl⟩

/-- TERM stands at one index of UPROG(N), right after PTRWRAP (R104). -/
theorem fetchInstr_term {n k : Nat} (h : fetchInstr n k = some .term) : k = paddingStart n + 1 := by
  rcases index_cases (fetchInstr_lt h) with rfl | ⟨w, r, hw, hr, rfl⟩ | ⟨hn, r, hr, rfl⟩ | ⟨r, hr, rfl⟩
  · cases h
  · rw [fetchInstr_window hw hr] at h
    interval_cases r <;> cases h
  · rw [fetchInstr_tail hn hr, tailGroup, if_neg hn] at h
    interval_cases r <;> cases h
  · rw [fetchInstr_padding] at h
    interval_cases r <;> cases h
    rfl

theorem Legal.upc_lt {s : State} (h : Legal s) (hb : s.blockState = .busy) :
    s.upc.toNat < programLength s.bufferSize := by
  obtain ⟨-, -, ⟨-, hbusy, -, -, -⟩, -⟩ := h
  obtain ⟨-, -, -, -, hupc⟩ := hbusy hb
  exact hupc

/-- The micro-operation at UPC of a legal BUSY block has a next state. -/
theorem Legal.exec_exists_next {s : State} {i : Instr} (h : Legal s) (hb : s.blockState = .busy)
    (hi : fetchInstr s.bufferSize s.upc.toNat = some i) : ∃ t, exec i s = .next t := by
  obtain ⟨-, ⟨hptr, -, -⟩, ⟨-, hbusy, -, -, -⟩, hphase⟩ := h
  obtain ⟨-, -, -, hsize, -⟩ := hbusy hb
  obtain ⟨hbeforeTerm, -, -⟩ := hphase hb
  refine exec_micro_exists_next (fetchInstr_format hi) hsize hptr ?_
  rintro rfl
  exact Nat.lt_succ_of_le (hbeforeTerm (fetchInstr_term hi))

end Sys2Proof.Machine
end

section
/-! SUPPORT. The statements about the message buffer (20_memory.md). -/

namespace Sys2Proof.Machine

/-- Settles O41: no instruction's frame holds an input, and no host action writes a parameter. -/
theorem noInstructionWritesTheInputs : Obligations.NoInstructionWritesTheInputs := by
  refine ⟨fun i s t h => ?_, fun s t h => ?_⟩
  · exact ⟨exec_keepsInputs h, (exec_keepsInputs h).keepsMemory⟩
  · obtain ⟨hcap, hsource, -⟩ := step_keeps_parameters_and_busy_buffer h
    exact ⟨hcap, hsource⟩

/-- Settles O44: outside BUILD and a checked VBLK the buffer is neither in the footprint nor in the frame. -/
theorem onlyBuildAndVblkReadTheBuffer : Obligations.OnlyBuildAndVblkReadTheBuffer := by
  intro i s t b hbuild hvblk h
  rw [← State.setData_buffer, ← State.setData_buffer]
  exact exec_setData b (buffer_not_read hbuild hvblk) (written_inputs _ _).2 h

/-- Settles O47: the one action that changes the buffer is the host's write, which a BUSY block refuses. -/
theorem bufferIsStableWhileBusy : Obligations.BufferIsStableWhileBusy := by
  refine fun s hb => ⟨fun t h => ?_, fun k b rest ha => ?_⟩
  · obtain ⟨hcap, -, hbuf⟩ := step_keeps_parameters_and_busy_buffer h
    exact memRead_congr hcap (hbuf hb)
  · rw [step_of_writeBuffer ha]
    exact writeBufferPort_of_busy (s := s.withActions rest) hb k b

/-- Settles O48: the host's write is a store in the buffer's list, which is read back and keeps the canonical form. -/
theorem hostWriteChangesOneByte : Obligations.HostWriteChangesOneByte := by
  intro s k b rest hb ha hwf
  rw [step_of_writeBuffer ha]
  refine ⟨fun hk => ⟨(s.withActions rest).writeBuffer k b, ?_, ?_, ?_, ?_, rfl⟩, fun hk => ?_⟩
  · exact writeBufferPort_of_lt (s := s.withActions rest) hb hk b
  · exact memRead_writeBuffer_same (s := s.withActions rest) hwf hk b
  · exact fun k' hne => memRead_writeBuffer_other (s := s.withActions rest) hwf hne b
  · exact Memory.store_wf k b hwf
  · exact writeBufferPort_of_le (s := s.withActions rest) hb hk b

/-- Settles O52: outside BUSY the sequencer rests; while BUSY UPC is below LEN(N), and the bounds of a legal state
are those under which the micro-operation there has a next state. -/
theorem legalBlockNeverStops : Obligations.LegalBlockNeverStops := by
  intro s hlegal ha
  by_cases hb : s.blockState = .busy
  · obtain ⟨i, hi⟩ := fetchInstr_some (Legal.upc_lt hlegal hb)
    rw [step_eq_exec ha hb hi]
    exact Legal.exec_exists_next hlegal hb hi
  · exact ⟨s, (step_of_nil ha).trans (sequencerStep_of_not_busy hb)⟩

end Sys2Proof.Machine
end

section
/-! SUPPORT. The two encodings as numbers: a word is the sum of its fields (R71, R72), and it decodes to the
instruction whose number it is (R73, R74) or is reserved (R75, R76). -/

namespace Sys2Proof

open Laws.EncodeFields (number)

/-! A word is the sum of its fields. -/

theorem commandChecked_toNat (w : Word) : (commandChecked w).toNat = w.toNat / 256 % 2 := by
  rw [commandChecked_eq]
  rcases Nat.mod_two_eq_zero_or_one (w.toNat / 256) with hc | hc <;> rw [hc] <;> rfl

theorem toNat_eq_of_commandFields (w : Word) :
    w.toNat = 512 * (commandReserved w).toNat + 256 * (commandChecked w).toNat + (commandOp w).toNat := by
  rw [commandReserved_toNat, commandOp_toNat, commandChecked_toNat]
  omega

theorem toNat_eq_of_microFields (w : Word) : w.toNat = 64 * (microIdx w).toNat + (microOp w).toNat := by
  rw [microIdx_toNat, microOp_toNat]
  omega

/-! The number of an instruction. -/

theorem encode_toNat {i : Instr} (h : i.wellFormed = true) : (encode i).toNat = number i := by
  cases i
  case hashVar c => exact Laws.EncodeFields.hashVar c h
  case hashFull c => exact Laws.EncodeFields.hashFull c h
  case build n | vblk n | sel n | cmpb n => exact Laws.EncodeFields.indexed h
  all_goals rfl

/-- A number that fits a word has an index that fits IDX (R72). -/
theorem wellFormed_of_number_lt {i : Instr} (h : number i < 2 ^ 32) : i.wellFormed = true := by
  cases i
  case build n | vblk n | sel n | cmpb n =>
    simp only [number] at h
    exact decide_eq_true (by omega)
  all_goals rfl

theorem wellFormed_of_toNat_eq {w : Word} {i : Instr} (h : w.toNat = number i) : i.wellFormed = true :=
  wellFormed_of_number_lt (h ▸ w.isLt)

theorem encode_eq_of_toNat_eq {w : Word} {i : Instr} (h : w.toNat = number i) : encode i = w :=
  BitVec.eq_of_toNat_eq ((encode_toNat (wellFormed_of_toNat_eq h)).trans h.symm)

/-! What a word decodes to. -/

theorem decode_encode {i : Instr} (hw : i.wellFormed = true) : decode i.format (encode i) = .ok i := by
  cases i
  case hashVar c | hashFull c => cases c <;> rfl
  all_goals exact Machine.decodeMicro_encode rfl hw

/-- A command word that decodes has RSV 0 and an OP of R73. -/
theorem number_of_decodeCommand {w : Word} {i : Instr} (h : decodeCommand w = .ok i) :
    i.format = .cmd32 ∧ w.toNat = number i := by
  have hw := toNat_eq_of_commandFields w
  unfold decodeCommand at h
  split at h
  case isTrue => cases h
  case isFalse hne =>
    have hrsv : (commandReserved w).toNat = 0 := congrArg BitVec.toNat (not_not.mp hne)
    rw [hrsv, Nat.mul_zero, Nat.zero_add] at hw
    split at h
    case h_1 hop | h_2 hop =>
      cases h
      exact ⟨rfl, hw.trans (by rw [hop, number])⟩
    case h_3 => cases h

/-- The micro-words R76 reserves: no UOP of R74, or an index where the micro-operation takes none. -/
def MicroReserved (w : Word) : Prop :=
  w.toNat % 64 = 0 ∨ 14 ≤ w.toNat % 64 ∨
    (w.toNat % 64 ≠ 2 ∧ w.toNat % 64 ≠ 3 ∧ w.toNat % 64 ≠ 4 ∧ w.toNat % 64 ≠ 6 ∧ w.toNat / 64 ≠ 0)

/-- What decoding a micro-word can answer: an error on the reserved words (R76), the instruction with that number on
the others (R72, R74). -/
inductive MicroDecoding (w : Word) : Except DecodeError Instr → Prop
  | reserved {e : DecodeError} (hr : MicroReserved w) : MicroDecoding w (.error e)
  | legal {i : Instr} (hr : ¬ MicroReserved w) (hf : i.format = .uop32) (hn : w.toNat = number i) :
      MicroDecoding w (.ok i)

theorem microDecoding_indexed {w : Word} {i : Instr} {op : Nat} (hop : (microOp w).toNat = op)
    (hidx : op = 2 ∨ op = 3 ∨ op = 4 ∨ op = 6) (hf : i.format = .uop32)
    (hn : number i = 64 * (microIdx w).toNat + op) : MicroDecoding w (.ok i) := by
  refine .legal ?_ hf (by rw [hn, ← hop, ← toNat_eq_of_microFields])
  rw [microOp_toNat] at hop
  unfold MicroReserved
  omega

theorem microDecoding_plain {w : Word} {i : Instr} {op : Nat} (hop : (microOp w).toNat = op)
    (hlo : 0 < op) (hhi : op < 14) (hidx : op ≠ 2 ∧ op ≠ 3 ∧ op ≠ 4 ∧ op ≠ 6) (hf : i.format = .uop32)
    (hn : number i = op) : MicroDecoding w (plainMicro i (microIdx w).toNat) := by
  have hw := toNat_eq_of_microFields w
  rw [microOp_toNat] at hop
  unfold plainMicro
  split
  case isTrue hzero =>
    rw [microIdx_toNat] at hzero
    refine .legal ?_ hf (by omega)
    unfold MicroReserved
    omega
  case isFalse hzero =>
    rw [microIdx_toNat] at hzero
    exact .reserved (by unfold MicroReserved; omega)

/-- Case `h_k` of the decoder's match is UOP `k`; the last is every UOP that R74 does not name. -/
theorem decodeMicro_spec (w : Word) : MicroDecoding w (decodeMicro w) := by
  unfold decodeMicro
  split
  case h_2 hop | h_3 hop | h_4 hop | h_6 hop => exact microDecoding_indexed hop (by decide) rfl rfl
  case h_14 =>
    refine .reserved ?_
    unfold MicroReserved
    simp only [microOp_toNat, imp_false] at *
    omega
  all_goals next hop =>
    exact microDecoding_plain hop (by decide) (by decide) (by decide) rfl rfl

theorem number_of_decode {f : Format} {w : Word} {i : Instr} (h : decode f w = .ok i) :
    i.format = f ∧ w.toNat = number i := by
  cases f with
  | cmd32 => exact number_of_decodeCommand h
  | uop32 =>
    have hspec := decodeMicro_spec w
    rw [show decodeMicro w = .ok i from h] at hspec
    cases hspec with
    | legal _ hf hn => exact ⟨hf, hn⟩

/-- In its own format a word decodes to an instruction exactly if it is the instruction's number. -/
theorem decode_eq_ok_iff (w : Word) (i : Instr) : decode i.format w = .ok i ↔ w.toNat = number i := by
  refine ⟨fun h => (number_of_decode h).2, fun h => ?_⟩
  rw [← encode_eq_of_toNat_eq h]
  exact decode_encode (wellFormed_of_toNat_eq h)

theorem decodeMicro_error_iff (w : Word) : (∃ e, decode .uop32 w = .error e) ↔ MicroReserved w := by
  have hspec := decodeMicro_spec w
  rw [decode]
  cases h : decodeMicro w <;> rw [h] at hspec <;> cases hspec
  case error.reserved e hr => exact ⟨fun _ => hr, fun _ => ⟨e, rfl⟩⟩
  case ok.legal hr _ _ => exact ⟨nofun, fun h => absurd h hr⟩

/-- Every word of UPROG(N) decodes: it is the word of a well-formed micro-operation (R104). -/
theorem decode_of_mem_uprog {n : Nat} (hn : n < 2 ^ 32) {u : Word} (hu : u ∈ Machine.uprog n) :
    ∃ i, decode .uop32 u = .ok i := by
  obtain ⟨k, hk⟩ := List.mem_iff_getElem?.mp hu
  rw [← Machine.fetchWord_eq_getElem?, Machine.fetchWord, Option.map_eq_some_iff] at hk
  obtain ⟨i, hi, rfl⟩ := hk
  exact ⟨i, Machine.decodeMicro_encode (Machine.fetchInstr_format hi) (Machine.fetchInstr_wellFormed hn hi)⟩

end Sys2Proof
end

section
/-! Proofs of the statements about the encoding. -/

namespace Sys2Proof

/-- Settles O1: the fields of a well-formed instruction's word are those it was made of. -/
theorem encodedInstructionDecodesToItself : Obligations.EncodedInstructionDecodesToItself :=
  fun _ hw => decode_encode hw

/-- Settles O2: a word that decodes is the number of the instruction it decodes to, and a number that fits 32 bits
has an index that fits IDX. -/
theorem decodedInstructionEncodesToItsWord : Obligations.DecodedInstructionEncodesToItsWord := by
  intro f w i h
  obtain ⟨hf, hn⟩ := number_of_decode h
  exact ⟨wellFormed_of_toNat_eq hn, hf, encode_eq_of_toNat_eq hn⟩

/-- Settles O3, row by row of R73 and R74. -/
theorem wordsAsNumbers : Obligations.WordsAsNumbers := by
  intro w c n
  rw [Nat.add_comm 0x01, Nat.add_comm 0x02]
  exact ⟨decode_eq_ok_iff w (.hashVar c), decode_eq_ok_iff w (.hashFull c), decode_eq_ok_iff w .init,
    decode_eq_ok_iff w (.build n), decode_eq_ok_iff w (.vblk n), decode_eq_ok_iff w (.sel n),
    decode_eq_ok_iff w .pack, decode_eq_ok_iff w (.cmpb n), decode_eq_ok_iff w .ptrwrap, decode_eq_ok_iff w .term,
    decode_eq_ok_iff w .flush, decode_eq_ok_iff w .attlen, decode_eq_ok_iff w .vlen, decode_eq_ok_iff w .cmpu,
    decode_eq_ok_iff w .digest⟩

/-- Settles O4: the decoder's errors are R76's words, and UPROG(N) is made of well-formed micro-operations. -/
theorem reservedMicroWordsAreNeverFetched : Obligations.ReservedMicroWordsAreNeverFetched :=
  ⟨decodeMicro_error_iff, fun n _ hu => decode_of_mem_uprog n.isLt hu⟩

/-- Settles O5: R79's four words by evaluation of the encoder and read back by `decode_encode`, its two illegal
words by evaluation of the decoder. -/
theorem exampleWordsOfTheSpecDecode : Obligations.ExampleWordsOfTheSpecDecode :=
  ⟨rfl, rfl, rfl, rfl, decode_encode (i := .build 3) rfl, decode_encode (i := .cmpb 7) rfl,
    decode_encode (i := .sel 0) rfl, decode_encode (i := .hashVar true) rfl, rfl, rfl⟩

end Sys2Proof
end

section
/-! SUPPORT. The statements about single steps of the driver (40_driver.md R101, R104 to R108, R116). -/

namespace Sys2Proof.Machine

theorem uprog_length (n : Nat) : (uprog n).length = programLength n := by
  rw [uprog, List.length_map, uprogInstrs_length]

/-- Settles O6: both the fetch and the list are the encodings of the same micro-operations. -/
theorem fetchReadsTheMicroProgram : Obligations.FetchReadsTheMicroProgram := fetchWord_eq_getElem?

theorem programLength_le {n : Nat} (hn : n < 2 ^ 32) : programLength n ≤ 5 * (2 ^ 26 - 1) + 13 := by
  unfold programLength
  split <;> omega

/-- Settles O7: the list has LEN(N) words. -/
theorem microProgramLength : Obligations.MicroProgramLength := by
  refine ⟨fun n => ?_, fun n => ?_, ?_⟩
  · rw [uprog_length, programLength, ite_not]
  · rw [uprog_length]
    exact programLength_le n.isLt
  · simp only [uprog_length]
    decide

/-- Settles O12: the accepting branch of the two commands; neither touches the capacity or the buffer. -/
theorem acceptanceLatchesTheCommand : Obligations.AcceptanceLatchesTheCommand := by
  refine fun c s ha => ⟨fun hsize => ?_, ?_⟩
  · exact ⟨_, exec_hashVar_accepts ha hsize, rfl, fun _ => rfl⟩
  · refine ⟨_, exec_hashFull_accepts ha, ?_, rfl, fun _ => rfl⟩
    exact BitVec.toNat_setWidth_of_le (by omega)

/-- Settles O42: a completion or an abort of a verifier, as `exec_micro_cases` says. -/
theorem microOperationsAdvanceUpcByOne : Obligations.MicroOperationsAdvanceUpcByOne := by
  intro i s t hf hb hx
  have hdone : i = .digest → t.blockState = .done := by
    rintro rfl
    cases hx
    rfl
  have hstop : i = .digest → sequencerStep exec t = .next t := fun hi =>
    sequencerStep_of_not_busy (by rw [hdone hi]; exact nofun)
  rcases exec_micro_cases hf hx with hc | ⟨hi, -, c, n, rfl⟩
  · have hbusy : i ≠ .digest → t.blockState = .busy := fun hi => by rw [hc.blockState, stateAfter_of_ne hi, hb]
    refine ⟨fun hab => ?_, fun _ => hc.upc, ⟨fun hd => ?_, hdone⟩, hstop⟩
    · by_cases hi : i = .digest
      · cases (hdone hi).symm.trans hab
      · cases (hbusy hi).symm.trans hab
    · by_contra hi
      cases (hbusy hi).symm.trans hd
  · refine ⟨fun _ => rfl, fun hab => absurd rfl hab, ⟨nofun, hdone⟩, hstop⟩

/-- HPTR is in no footprint of checked mode: SEL takes VPTR there (R116, R136). -/
theorem hptr_not_read (i : Instr) : .hptr ∉ reads true i := by
  cases i <;> simp [reads]

/-- Settles O46: HPTR is outside the footprint, so the two next states differ in HPTR alone. -/
theorem checkedModeNeverReadsHptr : Obligations.CheckedModeNeverReadsHptr := by
  intro i s t p hc hx
  have hother : ∀ r, r ≠ .hptr → (s.setData .hptr p).data r = s.data r := fun r hr => by
    rw [State.data_setData, Function.update_of_ne hr]
  have hunread : DataReg.hptr ∉ reads s.checked i := by
    rw [hc]
    exact hptr_not_read i
  obtain ⟨t', hx', hcontrol, hdata⟩ := exec_of_not_read (s' := s.setData .hptr p) hunread rfl hother hx
  refine ⟨t'.hptr, hx'.trans (congrArg Host.Outcome.next ?_)⟩
  refine State.eq_of_control_data (s := t.setData .hptr t'.hptr) hcontrol fun r => ?_
  rw [State.data_setData]
  by_cases hr : r = .hptr
  · subst hr
    rw [Function.update_self]
    rfl
  · rw [Function.update_of_ne hr, hdata r hr]

end Sys2Proof.Machine
end

section
/-! SUPPORT. Every micro-operation of UPROG(N) keeps the invariant of the block: the pointers' bounds
(42_length_padding.md R162), the fields of STATUS that go with each STATE (R24), and UPC below LEN(N) while BUSY
(40_driver.md R106, R108). -/

namespace Sys2Proof.Machine

/-- An abort's cause is one of those of R230 that are aborts. -/
theorem VerifierAborts.cause {i : Instr} {s t : State} (hb : s.blockState = .busy) (hx : exec i s = .next t)
    (h : VerifierAborts i s t) : t.cause.isAbort = true := by
  obtain ⟨hi, -, c, n, ht⟩ := h
  have hta : t.blockState ≠ .busy := by rw [ht]; exact nofun
  rcases hi with ⟨n, rfl⟩ | rfl
  · rcases exec_vblk_cases hx with ⟨-, rfl⟩ | ⟨-, -, rfl⟩ | ⟨-, c, m, hv, rfl⟩
    · exact absurd hb hta
    · exact absurd hb hta
    · rcases windowVerdict_abort hv with rfl | rfl | rfl <;> rfl
  · rcases exec_vlen_cases hx with ⟨-, rfl⟩ | ⟨-, -, rfl⟩ | ⟨-, c, m, hv, rfl⟩
    · exact absurd hb hta
    · exact absurd hb hta
    · rcases lengthVerdict_abort hv with rfl | rfl | rfl <;> rfl

/-! The pointers. -/

theorem pointer_le {n : Nat} (h : n ≤ 64) : (pointer n).toNat ≤ 64 := (pointer_toNat h).trans_le h

theorem drawnPointer_le (n : Nat) : (pointer (Config.drawPointer n).val).toNat ≤ 64 :=
  pointer_le (Nat.le_of_lt_succ (Fin.isLt _))

theorem term_ptr_toNat {p : BitVec 7} (h : p.toNat < 64) : (p + 1).toNat = p.toNat + 1 := by
  rw [BitVec.toNat_add]
  exact Nat.mod_eq_of_lt (show p.toNat + 1 < 128 by omega)

/-- "Block Byte Pointer never exceeds 64" (R34, R36, R37). -/
theorem exec_pointersInBlock {i : Instr} {s t : State} (h : PointersInBlock s) (hx : exec i s = .next t) :
    PointersInBlock t := by
  obtain ⟨hptr, hhptr, hvptr⟩ := h
  cases i
  case build n =>
    rcases exec_build_cases hx with ⟨-, ⟨-, rfl⟩ | ⟨-, rfl⟩⟩
    · simpa [PointersInBlock, hptr, hvptr] using drawnPointer_le s.freeCount
    · simpa [PointersInBlock, hptr, hvptr] using pointer_le (windowCount_le s n)
  case vblk n =>
    rcases exec_vblk_cases hx with ⟨-, rfl⟩ | ⟨-, -, rfl⟩ | ⟨-, c, m, -, rfl⟩
    · exact ⟨hptr, hhptr, hvptr⟩
    · simpa [PointersInBlock, hptr, hhptr] using pointer_le (windowCount_le s n)
    · exact ⟨hptr, hhptr, hvptr⟩
  case sel n =>
    rcases exec_sel_cases hx with ⟨-, rfl⟩ | ⟨-, rfl⟩
    · refine ⟨?_, hhptr, hvptr⟩
      show (if s.checked = true then s.vptr else s.hptr).toNat ≤ 64
      split
      · exact hvptr
      · exact hhptr
    · exact ⟨hptr, hhptr, hvptr⟩
  case term =>
    obtain ⟨hlt, rfl⟩ := exec_term_cases hx
    exact ⟨(term_ptr_toNat hlt).trans_le hlt, hhptr, hvptr⟩
  case init =>
    cases hx
    exact ⟨Nat.zero_le 64, hhptr, hvptr⟩
  case ptrwrap =>
    rcases exec_ptrwrap_cases hx with ⟨-, rfl⟩ | ⟨-, rfl⟩
    · exact ⟨Nat.zero_le 64, hhptr, hvptr⟩
    · exact ⟨hptr, hhptr, hvptr⟩
  case flush =>
    rcases exec_flush_cases hx with ⟨-, rfl⟩ | ⟨-, rfl⟩
    · exact ⟨Nat.zero_le 64, hhptr, hvptr⟩
    · exact ⟨hptr, hhptr, hvptr⟩
  all_goals
    have hp : t.ptr = s.ptr := exec_frame (r := .ptr) hx (by simp [written])
    have hh : t.hptr = s.hptr := exec_frame (r := .hptr) hx (by simp [written])
    have hv : t.vptr = s.vptr := exec_frame (r := .vptr) hx (by simp [written])
    rw [PointersInBlock, hp, hh, hv]
    exact ⟨hptr, hhptr, hvptr⟩

theorem fetchInstr_padding_at {n k r : Nat} (hk : k = paddingStart n + r) : fetchInstr n k = paddingGroup[r]? := by
  rw [hk, fetchInstr_padding]

/-- The phases of PTR (R162), from PTRWRAP on by the micro-operation at UPC. -/
theorem PointerPhase.exec {i : Instr} {s t : State} (h : Legal s) (hb : s.blockState = .busy)
    (hi : fetchInstr s.bufferSize s.upc.toNat = some i) (hx : exec i s = .next t) (hc : Completes i s t) :
    PointerPhase t := by
  obtain ⟨-, ⟨hptr, -, -⟩, -, hphase⟩ := h
  obtain ⟨hterm, hfilled, hflushed⟩ := hphase hb
  have hn : t.bufferSize = s.bufferSize := congrArg BitVec.toNat hc.capacity
  have hupc : t.upc.toNat = s.upc.toNat + 1 := by rw [hc.upc, upc_succ_toNat (fetchInstr_lt hi)]
  have hkept : .ptr ∉ written s.checked i → t.ptr = s.ptr := fun hr => exec_frame (r := .ptr) hx hr
  rw [PointerPhase, hn, hupc]
  refine fun _ => ⟨fun hk => ?_, fun hk => ?_, fun hk => ?_⟩
  · cases hi.symm.trans (fetchInstr_padding_at (r := 0) (Nat.succ.inj hk))
    rcases exec_ptrwrap_cases hx with ⟨-, rfl⟩ | ⟨hne, rfl⟩
    · exact Nat.zero_le 63
    · exact Nat.le_of_lt_succ (Nat.lt_of_le_of_ne hptr hne)
  · rcases hk with hk | hk
    · cases hi.symm.trans (fetchInstr_padding_at (r := 1) (Nat.succ.inj hk))
      obtain ⟨hlt, rfl⟩ := exec_term_cases hx
      exact (Nat.succ_le_succ (Nat.zero_le _)).trans_eq (term_ptr_toNat hlt).symm
    · have hk' : s.upc.toNat = paddingStart s.bufferSize + 2 := Nat.succ.inj hk
      cases hi.symm.trans (fetchInstr_padding_at hk')
      rw [hkept (by simp [written])]
      exact hfilled (.inl hk')
  · by_cases hk' : s.upc.toNat = paddingStart s.bufferSize + 3
    · cases hi.symm.trans (fetchInstr_padding_at hk')
      rcases exec_flush_cases hx with ⟨-, rfl⟩ | ⟨hle, rfl⟩
      · exact Nat.zero_le 56
      · exact hle
    · have hlt := fetchInstr_lt hi
      rw [programLength_eq] at hlt
      obtain ⟨r, hr, hlo, hhi⟩ : ∃ r, s.upc.toNat = paddingStart s.bufferSize + r ∧ 4 ≤ r ∧ r < 9 :=
        ⟨s.upc.toNat - paddingStart s.bufferSize, by omega, by omega, by omega⟩
      have hpad := hi.symm.trans (fetchInstr_padding_at hr)
      have hunwritten : .ptr ∉ written s.checked i := by
        interval_cases r <;> cases hpad <;> simp [written]
      rw [hkept hunwritten]
      exact hflushed (by omega)

/-! UPC. -/

/-- DIGEST stands at the last index of UPROG(N) (R104). -/
theorem fetchInstr_last {n k : Nat} {i : Instr} (hi : fetchInstr n k = some i) (hk : k + 1 = programLength n) :
    i = .digest := by
  rw [programLength_eq] at hk
  cases hi.symm.trans (fetchInstr_padding_at (n := n) (k := k) (r := 8) (by omega))
  rfl

/-- The state after a micro-operation of a legal BUSY block is legal. -/
theorem Legal.exec {i : Instr} {s t : State} (h : Legal s) (hb : s.blockState = .busy)
    (hi : fetchInstr s.bufferSize s.upc.toNat = some i) (hx : exec i s = .next t) : Legal t := by
  have hf := fetchInstr_format hi
  have hbuf : t.buffer = s.buffer := exec_frame (r := .buffer) hx (written_inputs _ _).2
  have hphase := PointerPhase.exec h hb hi hx
  obtain ⟨hcanonical, hptrs, ⟨-, hbusy, -, -, -⟩, -⟩ := h
  obtain ⟨hcause, hinfo, hmode, hsize, hupc⟩ := hbusy hb
  have hptrs' := exec_pointersInBlock hptrs hx
  rcases exec_micro_cases hf hx with hc | ha
  · have hn : t.bufferSize = s.bufferSize := congrArg BitVec.toNat hc.capacity
    refine ⟨by rwa [BufferCanonical, hbuf, hn], hptrs', ?_, hphase hc⟩
    by_cases hd : i = .digest
    · subst hd
      cases hx
      exact ⟨nofun, nofun, fun _ => ⟨hcause, hinfo, hmode, rfl⟩, nofun, nofun⟩
    · have hb' : t.blockState = .busy := by rw [hc.blockState, stateAfter_of_ne hd, hb]
      have hlt : s.upc.toNat + 1 < programLength s.bufferSize :=
        Nat.lt_of_le_of_ne hupc fun hk => hd (fetchInstr_last hi hk)
      rw [StatusLegal, hb']
      refine ⟨nofun, fun _ => ?_, nofun, nofun, nofun⟩
      rw [hc.cause, hc.info, hc.mode, hc.checked, hc.size, hn, hc.upc, upc_succ_toNat hupc]
      exact ⟨hcause, hinfo, hmode, hsize, hlt⟩
  · have hcause' := ha.cause hb hx
    obtain ⟨-, hchecked, c, n, rfl⟩ := ha
    have hstatus : StatusLegal (s.abort c n) :=
      ⟨nofun, nofun, nofun, fun _ => ⟨hcause', hmode.trans hchecked, hchecked⟩, nofun⟩
    exact ⟨hcanonical, hptrs', hstatus, nofun⟩

/-- A BUSY block goes on to the next index of UPROG(N), or the command ends (R108, R109). -/
theorem exec_goes_on_or_ends {i : Instr} {s t : State} (hb : s.blockState = .busy)
    (hi : fetchInstr s.bufferSize s.upc.toNat = some i) (hx : exec i s = .next t) :
    (t.blockState = .busy ∧ t.bufferSize = s.bufferSize ∧ t.upc.toNat = s.upc.toNat + 1) ∨
      t.blockState = .done ∨ t.blockState = .aborted := by
  rcases exec_micro_cases (fetchInstr_format hi) hx with hc | ⟨-, -, c, n, rfl⟩
  · by_cases hd : i = .digest
    · exact .inr (.inl (by rw [hc.blockState, hd, stateAfter]))
    · exact .inl ⟨by rw [hc.blockState, stateAfter_of_ne hd, hb], congrArg BitVec.toNat hc.capacity,
        by rw [hc.upc, upc_succ_toNat (fetchInstr_lt hi)]⟩
  · exact .inr (.inr rfl)

/-- The run of a legal BUSY block ends within the `d` micro-operations left of UPROG(N). -/
theorem Legal.run_ends {d : Nat} {s : State} (h : Legal s) (hb : s.blockState = .busy) (ha : s.hostActions = [])
    (hd : s.upc.toNat + d = programLength s.bufferSize) :
    ∃ (k : Nat) (t : State), k ≤ d ∧ Sys2Proof.core.run k s = .next t ∧
      (t.blockState = .done ∨ t.blockState = .aborted) := by
  induction d generalizing s with
  | zero => exact absurd (Legal.upc_lt h hb) (by omega)
  | succ d ih =>
    obtain ⟨i, hi⟩ := fetchInstr_some (Legal.upc_lt h hb)
    obtain ⟨u, hx⟩ := Legal.exec_exists_next h hb hi
    have hstep : step s = .next u := (step_eq_exec ha hb hi).trans hx
    rcases exec_goes_on_or_ends hb hi hx with ⟨hb', hn, hupc⟩ | hend
    · obtain ⟨-, -, -, -, hactions⟩ := exec_keepsInputs hx
      obtain ⟨k, t, hk, hrun, ht⟩ := ih (Legal.exec h hb hi hx) hb' (hactions.trans ha) (by rw [hn, hupc]; omega)
      exact ⟨k + 1, t, Nat.succ_le_succ hk, (run_next hstep).trans hrun, ht⟩
    · exact ⟨1, u, Nat.succ_le_succ (Nat.zero_le d), (run_next hstep).trans (run_zero u), hend⟩

/-- Settles O53, by induction on the micro-operations left: each keeps the invariant and goes on or ends. -/
theorem everyCommandEnds : Obligations.EveryCommandEnds := by
  intro s h hb ha
  have hlt := Legal.upc_lt h hb
  rw [uprog_length]
  exact Legal.run_ends h hb ha (by omega)

end Sys2Proof.Machine
end

section
/-! SUPPORT. The padded message byte by byte and block by block (42_length_padding.md R163), and the hash of its first
blocks (40_driver.md R112). -/

namespace Sys2Proof.Machine

/-! The hash of the first blocks. -/

/-- The compressions of the first `n` blocks, from the initial hash value (R112). -/
def hashPrefix (bytes : List Byte) (n : Nat) : Vector Word 8 :=
  (List.range n).foldl (fun hs i => sha256Compress (packWords (blockAt bytes i)) hs) initialHash

theorem hashPrefix_zero (bytes : List Byte) : hashPrefix bytes 0 = initialHash := rfl

theorem hashPrefix_succ (bytes : List Byte) (n : Nat) :
    hashPrefix bytes (n + 1) = sha256Compress (packWords (blockAt bytes n)) (hashPrefix bytes n) := by
  simp [hashPrefix, List.range_succ]

theorem hashBlocks_eq_hashPrefix {bytes : List Byte} {n : Nat} (h : bytes.length = 64 * n) :
    hashBlocks bytes = hashPrefix bytes n := by
  rw [hashBlocks, h, Nat.mul_div_cancel_left n (by decide), hashPrefix]

/-- The hash of the first blocks depends on those blocks alone. -/
theorem hashPrefix_congr {a b : List Byte} {n : Nat} (h : ∀ i, i < n → blockAt a i = blockAt b i) :
    hashPrefix a n = hashPrefix b n := by
  induction n with
  | zero => rw [hashPrefix_zero, hashPrefix_zero]
  | succ n ih => rw [hashPrefix_succ, hashPrefix_succ, h n (Nat.lt_succ_self n), ih fun i hi => h i (by omega)]

/-! The bytes of the padded message. -/

theorem blockAt_get (bytes : List Byte) (i j : Nat) (hj : j < 64) :
    (blockAt bytes i)[j] = bytes.getD (64 * i + j) 0 := by
  simp only [blockAt, Vector.getElem_ofFn]

/-- The last block of the padded message: it holds the end of the zero bytes and the length (R163). -/
def finalBlock (len : Nat) : Nat := (len + 8) / 64

/-- The zero bytes reach up to byte 55 of the last block. -/
theorem paddingZeros_end (len : Nat) : len + 1 + paddingZeros len = 64 * finalBlock len + 56 := by
  unfold paddingZeros finalBlock
  omega

theorem paddedMessage_length (m : List Byte) : (paddedMessage m).length = 64 * (finalBlock m.length + 1) := by
  have hz := paddingZeros_end m.length
  simp only [paddedMessage, List.length_append, List.length_singleton, List.length_replicate, List.length_map,
    List.length_range]
  omega

theorem paddedMessage_message {m : List Byte} {k : Nat} (hk : k < m.length) :
    (paddedMessage m).getD k 0 = m.getD k 0 := by
  rw [paddedMessage, List.append_assoc, List.append_assoc, List.getD_append _ _ _ _ hk]

theorem paddedMessage_terminator (m : List Byte) : (paddedMessage m).getD m.length 0 = 0x80 := by
  rw [paddedMessage, List.append_assoc, List.append_assoc, List.getD_append_right _ _ _ _ (Nat.le_refl _), Nat.sub_self]
  rfl

theorem paddedMessage_zero {m : List Byte} {k : Nat} (hlo : m.length < k) (hhi : k < 64 * finalBlock m.length + 56) :
    (paddedMessage m).getD k 0 = 0 := by
  have hz := paddingZeros_end m.length
  have hlen : (m ++ [(0x80 : Byte)]).length = m.length + 1 := by simp
  have hin : k - (m ++ [(0x80 : Byte)]).length < (List.replicate (paddingZeros m.length) (0 : Byte)).length := by
    rw [hlen, List.length_replicate]
    omega
  rw [paddedMessage, List.append_assoc, List.getD_append_right _ _ _ _ (by omega), List.getD_append _ _ _ _ hin,
    List.getD_replicate _ (by simpa using hin)]

theorem paddedMessage_lengthByte (m : List Byte) {j : Nat} (hlo : 56 ≤ j) (hhi : j < 64) :
    (paddedMessage m).getD (64 * finalBlock m.length + j) 0 =
      byteOfDWord (BitVec.ofNat 64 (8 * m.length)) (j - 56) := by
  have hz := paddingZeros_end m.length
  have hlen : (m ++ [0x80] ++ List.replicate (paddingZeros m.length) (0 : Byte)).length =
      64 * finalBlock m.length + 56 := by simp [← hz]; omega
  rw [paddedMessage, List.getD_append_right _ _ _ _ (by omega), hlen,
    show 64 * finalBlock m.length + j - (64 * finalBlock m.length + 56) = j - 56 by omega]
  simp [List.getD_eq_getElem?_getD, show j - 56 < 8 by omega]

/-! Its blocks. -/

/-- The full blocks of the message are the first blocks of the padded message. -/
theorem blockAt_paddedMessage {m : List Byte} {i : Nat} (hi : i < m.length / 64) :
    blockAt (paddedMessage m) i = blockAt m i := by
  refine Vector.ext fun j hj => ?_
  rw [blockAt_get, blockAt_get, paddedMessage_message (by omega)]

theorem hashPrefix_paddedMessage (m : List Byte) :
    hashPrefix (paddedMessage m) (m.length / 64) = hashPrefix m (m.length / 64) :=
  hashPrefix_congr fun _ hi => blockAt_paddedMessage hi

theorem sha256_eq_hashPrefix (m : List Byte) :
    sha256 m = digestBytes (hashPrefix (paddedMessage m) (finalBlock m.length + 1)) := by
  rw [sha256, hashBlocks_eq_hashPrefix (paddedMessage_length m)]

end Sys2Proof.Machine
end

section
/-! SUPPORT. The run of one command of a block whose host does nothing more (70_reset_and_hazards.md R282): what it
never changes, that it ends once, and how assertions about its states are carried along UPROG(N). -/

namespace Sys2Proof.Machine

/-! What a command never changes. -/

/-- The parameters, the buffer and the latched command are the same. -/
structure SameJob (s t : State) : Prop where
  capacity : t.capacity = s.capacity
  hintSource : t.hintSource = s.hintSource
  size : t.size = s.size
  checked : t.checked = s.checked
  buffer : t.buffer = s.buffer

theorem SameJob.bufferSize {s t : State} (h : SameJob s t) : t.bufferSize = s.bufferSize :=
  congrArg BitVec.toNat h.capacity

theorem SameJob.message {s t : State} (h : SameJob s t) : message t = message s := by
  rw [Machine.message, Machine.message, h.size, h.buffer]

theorem SameJob.memRead {s t : State} (h : SameJob s t) (k : Nat) : memRead t k = memRead s k :=
  memRead_congr h.capacity h.buffer k

theorem SameJob.trans {s t u : State} (h : SameJob s t) (h' : SameJob t u) : SameJob s u :=
  ⟨h'.capacity.trans h.capacity, h'.hintSource.trans h.hintSource, h'.size.trans h.size, h'.checked.trans h.checked,
    h'.buffer.trans h.buffer⟩

theorem exec_sameJob {s t : State} {i : Instr} (hf : i.format = .uop32) (hx : exec i s = .next t) : SameJob s t := by
  obtain ⟨hcap, hsource, hbuf, -, -⟩ := exec_keepsInputs hx
  rcases exec_micro_cases hf hx with hc | ⟨-, -, c, n, rfl⟩
  · exact ⟨hcap, hsource, hc.size, hc.checked, hbuf⟩
  · exact ⟨hcap, hsource, rfl, rfl, hbuf⟩

/-- Outside BUSY the block then waits (R107, R263). -/
theorem step_of_ended {s : State} (ha : s.hostActions = []) (hb : s.blockState ≠ .busy) : step s = .next s :=
  (step_of_nil ha).trans (sequencerStep_of_not_busy hb)

/-- A step of the block left to itself. -/
theorem step_sameJob {s t : State} (ha : s.hostActions = []) (hx : step s = .next t) :
    SameJob s t ∧ t.hostActions = [] := by
  by_cases hb : s.blockState = .busy
  · obtain ⟨i, hi, hxi⟩ := exec_of_busy_step ha hb hx
    obtain ⟨-, -, -, -, hactions⟩ := exec_keepsInputs hxi
    exact ⟨exec_sameJob (fetchInstr_format hi) hxi, hactions.trans ha⟩
  · cases (step_of_ended ha hb).symm.trans hx
    exact ⟨⟨rfl, rfl, rfl, rfl, rfl⟩, ha⟩

theorem run_sameJob {k : Nat} {s t : State} (ha : s.hostActions = []) (h : Sys2Proof.core.run k s = .next t) :
    SameJob s t ∧ t.hostActions = [] := by
  refine run_invariant (p := fun t => SameJob s t ∧ t.hostActions = []) ?_ ⟨⟨rfl, rfl, rfl, rfl, rfl⟩, ha⟩ h
  rintro t u ⟨hjob, hidle⟩ hx
  exact (step_sameJob hidle hx).imp_left hjob.trans

/-! A command ends once. -/

theorem run_of_ended {s : State} (ha : s.hostActions = []) (hb : s.blockState ≠ .busy) (k : Nat) :
    Sys2Proof.core.run k s = .next s := by
  induction k with
  | zero => exact run_zero s
  | succ k ih => rw [run_next (step_of_ended ha hb), ih]

/-- The command is over (R109). -/
def Ended (s : State) : Prop := s.blockState = .done ∨ s.blockState = .aborted

theorem Ended.not_busy {s : State} (h : Ended s) : s.blockState ≠ .busy := by
  rcases h with h | h <;> rw [h] <;> exact nofun

/-- Two runs that end, end in the same state. -/
theorem run_end_unique {s t u : State} {k m : Nat} (ha : s.hostActions = []) (ht : Sys2Proof.core.run k s = .next t)
    (hu : Sys2Proof.core.run m s = .next u) (het : Ended t) (heu : Ended u) : t = u := by
  have htm := (run_add (n := m) ht).trans (run_of_ended (run_sameJob ha ht).2 het.not_busy m)
  have huk := (run_add (n := k) hu).trans (run_of_ended (run_sameJob ha hu).2 heu.not_busy k)
  rw [Nat.add_comm] at huk
  exact Host.Outcome.next.inj (htm.symm.trans huk)

/-! Slack. -/

/-- Index `k` holds a non-zero slack byte (R16). -/
def NonzeroSlack (s : State) (k : Nat) : Prop := s.size.toNat ≤ k ∧ k < s.bufferSize ∧ memRead s k ≠ some 0

theorem slackZero_iff (s : State) : SlackZero s ↔ ∀ k, ¬ NonzeroSlack s k := by
  simp [SlackZero, NonzeroSlack]

theorem SameJob.nonzeroSlack_iff {s t : State} (h : SameJob s t) (k : Nat) :
    NonzeroSlack t k ↔ NonzeroSlack s k := by
  rw [NonzeroSlack, NonzeroSlack, h.size, h.bufferSize, h.memRead]

/-- Index `k` holds the lowest non-zero slack byte (R117). -/
def LowestSlack (s : State) (k : Nat) : Prop := NonzeroSlack s k ∧ ∀ k', k' < k → ¬ NonzeroSlack s k'

theorem LowestSlack.unique {s : State} {k k' : Nat} (h : LowestSlack s k) (h' : LowestSlack s k') : k = k' := by
  obtain ⟨hk, hbelow⟩ := h
  obtain ⟨hk', hbelow'⟩ := h'
  by_contra hne
  rcases Nat.lt_or_gt_of_ne hne with hlt | hlt
  · exact hbelow' k hlt hk
  · exact hbelow k' hlt hk'

theorem SameJob.lowestSlack_iff {s t : State} (h : SameJob s t) (k : Nat) : LowestSlack t k ↔ LowestSlack s k := by
  simp only [LowestSlack, h.nonzeroSlack_iff]

/-- The command aborted, in checked mode; with HINT_SOURCE = builder it did at the VBLK of the window of the lowest
non-zero slack byte (R117). -/
structure AbortedByCheck (s : State) : Prop where
  aborted : s.blockState = .aborted
  checked : s.checked = true
  builder : s.hintSource = .builder →
    ∃ k, LowestSlack s k ∧ s.cause = .slackNonzero ∧ s.info.toNat = k ∧ s.upc.toNat = 5 * (k / 64) + 2

/-! Assertions along UPROG(N). -/

/-- The block is about to perform the micro-operation at index `k`. -/
structure Running (k : Nat) (s : State) : Prop where
  busy : s.blockState = .busy
  upc : s.upc.toNat = k
  size_le : s.size.toNat ≤ s.bufferSize

theorem Running.size_lt {k : Nat} {s : State} (h : Running k s) : s.size.toNat < 2 ^ 32 :=
  Nat.lt_of_le_of_lt h.size_le s.capacity.isLt

/-- From `P` at index `k` the micro-operation `i` establishes `Q`, or a check aborts the command. -/
def Triple (k : Nat) (P : State → Prop) (i : Instr) (Q : State → Prop) : Prop :=
  ∀ s, Running k s → P s → ∃ t, exec i s = .next t ∧ (Completes i s t ∧ Q t ∨ AbortedByCheck t)

/-- The command reaches index `k` of UPROG(N) with `P`, or a check aborts it. -/
def Attains (s : State) (k : Nat) (P : State → Prop) : Prop :=
  (∃ t, Sys2Proof.core.run k s = .next t ∧ Running k t ∧ P t) ∨
    ∃ m t, Sys2Proof.core.run m s = .next t ∧ AbortedByCheck t

section
variable {s : State} {k : Nat} {P Q : State → Prop}

theorem Attains.mono (ha : s.hostActions = []) (h : Attains s k P)
    (hPQ : ∀ t, SameJob s t → Running k t → P t → Q t) : Attains s k Q :=
  h.imp_left fun ⟨t, hrun, hk, hP⟩ => ⟨t, hrun, hk, hPQ t (run_sameJob ha hrun).1 hk hP⟩

theorem attains_zero (h : JustAccepted s) : Attains s 0 fun _ => True := by
  obtain ⟨hb, hupc, hsize, -⟩ := h
  exact .inl ⟨s, run_zero s, ⟨hb, by rw [hupc]; rfl, hsize⟩, trivial⟩

/-- The micro-operation at index `k` carries the run on to index `k + 1`. -/
theorem Attains.step {i : Instr} (ha : s.hostActions = []) (h : Attains s k P)
    (hi : fetchInstr s.bufferSize k = some i) (hd : i ≠ .digest) (htriple : Triple k P i Q) :
    Attains s (k + 1) Q := by
  rcases h with ⟨t, hrun, hk, hP⟩ | hab
  · obtain ⟨hjob, hidle⟩ := run_sameJob ha hrun
    obtain ⟨u, hx, hu⟩ := htriple t hk hP
    have hfetch : fetchInstr t.bufferSize t.upc.toNat = some i := by rw [hjob.bufferSize, hk.upc, hi]
    have hrun' := run_snoc hrun ((step_eq_exec hidle hk.busy hfetch).trans hx)
    rcases hu with ⟨hc, hQ⟩ | hab
    · refine .inl ⟨u, hrun', ⟨?_, ?_, ?_⟩, hQ⟩
      · rw [hc.blockState, stateAfter_of_ne hd, hk.busy]
      · rw [hc.upc, upc_succ_toNat (fetchInstr_lt hfetch), hk.upc]
      · rw [hc.size, State.bufferSize, hc.capacity]
        exact hk.size_le
    · exact .inr ⟨k + 1, u, hrun', hab⟩
  · exact .inr hab

/-- A command that ends in DONE was not aborted, so it did reach index `k`. -/
theorem Attains.of_done {n : Nat} {t : State} (ha : s.hostActions = []) (h : Attains s k P)
    (hrun : Sys2Proof.core.run n s = .next t) (hd : t.blockState = .done) :
    ∃ u, Sys2Proof.core.run k s = .next u ∧ Running k u ∧ P u := by
  rcases h with h | ⟨m, u, hrun', hab⟩
  · exact h
  · obtain rfl := run_end_unique ha hrun hrun' (.inl hd) (.inr hab.aborted)
    cases hd.symm.trans hab.aborted

end

end Sys2Proof.Machine
end

section
/-! SUPPORT. The windows of a command (40_driver.md R104): in both modes, and whatever the hints of a checked command
were, window `i` puts block `i` of the message in BLK (41_block_builder_verifier.md R130 to R136), and its full blocks
are compressed in order (44_compression.md R195). -/

namespace Sys2Proof.Machine

/-! The message as blocks. -/

theorem message_length (s : State) : (message s).length = s.size.toNat := by simp [message]

theorem message_getD (s : State) (k : Nat) :
    (message s).getD k 0 = if k < s.size.toNat then Memory.lookup s.buffer k else 0 := by
  by_cases hk : k < s.size.toNat
  · simp [message, hk, List.getD_eq_getElem?_getD]
  · simp [message, hk, List.getD_eq_getElem?_getD]

/-- What BUILD copies is the window's block of the message (R130). -/
theorem windowBytes_eq_blockAt (s : State) (i : Nat) : windowBytes s i = blockAt (message s) i := by
  refine Vector.ext fun j hj => ?_
  rw [blockAt_get, message_getD]
  exact windowBytes_get s i ⟨j, hj⟩

/-- A candidate that passes VBLK is the window's block of the message (R133). -/
theorem hblk_of_passes {s : State} {i : Nat} (hsize : s.size.toNat ≤ s.bufferSize)
    (h : ∀ j, WindowBytePasses s i j) : s.hblk = blockAt (message s) i := by
  refine Vector.ext fun j hj => ?_
  obtain ⟨hin, hout⟩ := h ⟨j, hj⟩
  rw [blockAt_get, message_getD]
  by_cases hk : 64 * i + j < s.size.toNat
  · rw [if_pos hk]
    have hread := hin hk
    rw [memRead_of_lt (Nat.lt_of_lt_of_le hk hsize)] at hread
    exact (Option.some.inj hread).symm
  · rw [if_neg hk]
    exact (hout (Nat.le_of_not_lt hk)).1

/-- A window that passes VBLK holds no non-zero slack byte (R133). -/
theorem noSlack_of_passes {s : State} {i k : Nat} (h : ∀ j, WindowBytePasses s i j) (hlo : 64 * i ≤ k)
    (hhi : k < 64 * (i + 1)) : ¬ NonzeroSlack s k := by
  rintro ⟨hout, hin, hne⟩
  obtain ⟨-, hzero⟩ := h ⟨k - 64 * i, by omega⟩
  rw [show 64 * i + (k - 64 * i) = k by omega] at hzero
  exact hne ((hzero hout).2 hin)

/-! VBLK on the builder's hint. -/

theorem windowTest_of_slack {s : State} {i : Nat} {j : Fin 64} (hh : s.hblk = blockAt (message s) i)
    (h : NonzeroSlack s (64 * i + j.val)) :
    windowTest s i j = some (.abort .slackNonzero (64 * i + j.val)) := by
  obtain ⟨hout, hin, hne⟩ := h
  have hzero : s.hblk[j] = 0 := by
    rw [hh]
    exact (blockAt_get _ _ _ j.isLt).trans ((message_getD s _).trans (if_neg (Nat.not_lt.mpr hout)))
  have hread := memRead_of_lt hin
  rw [hread] at hne
  have hbyte : Memory.lookup s.buffer (64 * i + j.val) ≠ 0 := fun h0 => hne (congrArg some h0)
  have hcount : ¬ j.val < windowCount s i := by
    rw [lt_windowCount_iff]
    exact Nat.not_lt.mpr hout
  simp only [windowTest, windowOffset, if_neg hcount, hread]
  rw [if_neg (not_not.mpr hzero), if_pos hbyte]

theorem windowTest_of_not_slack {s : State} {i : Nat} {j : Fin 64} (hh : s.hblk = blockAt (message s) i)
    (hsize : s.size.toNat ≤ s.bufferSize) (h : ¬ NonzeroSlack s (64 * i + j.val)) : windowTest s i j = none := by
  have hbyte : s.hblk[j] =
      if 64 * i + j.val < s.size.toNat then Memory.lookup s.buffer (64 * i + j.val) else 0 := by
    rw [hh]
    exact (blockAt_get _ _ _ j.isLt).trans (message_getD s _)
  rw [windowTest_none_iff]
  refine ⟨fun hin => ?_, fun hout => ⟨?_, fun hin => ?_⟩⟩
  · rw [hbyte, if_pos hin]
    exact memRead_of_lt (Nat.lt_of_lt_of_le hin hsize)
  · rw [hbyte, if_neg (Nat.not_lt.mpr hout)]
  · by_contra hne
    exact h ⟨hout, hin, hne⟩

/-- On the window's block of the message VBLK can fail on slack alone, at its lowest non-zero byte (R117). -/
theorem windowVerdict_of_hint {s : State} {i : Nat} (hh : s.hblk = blockAt (message s) i)
    (hsize : s.size.toNat ≤ s.bufferSize) :
    windowVerdict s i = none ∨ ∃ j : Fin 64, windowVerdict s i = some (.abort .slackNonzero (64 * i + j.val)) ∧
      NonzeroSlack s (64 * i + j.val) ∧ ∀ j', j' < j → ¬ NonzeroSlack s (64 * i + j'.val) := by
  by_cases h : ∃ j : Fin 64, NonzeroSlack s (64 * i + j.val)
  · obtain ⟨j, hj, hmin⟩ :=
      WellFounded.has_min (wellFounded_lt (α := Fin 64)) {j | NonzeroSlack s (64 * i + j.val)} h
    have hbefore : ∀ j', j' < j → ¬ NonzeroSlack s (64 * i + j'.val) := fun j' hlt hj' => hmin j' hj' hlt
    refine .inr ⟨j, ?_, hj, hbefore⟩
    exact findSome_finRange_first (windowTest_of_slack hh hj)
      fun j' hlt => windowTest_of_not_slack hh hsize (hbefore j' hlt)
  · refine .inl ((findSome_finRange_none _).mpr fun j => windowTest_of_not_slack hh hsize ?_)
    exact fun hj => h ⟨j, hj⟩

/-! The state between the windows. -/

/-- BLK and PTR after the SELs of the windows below `w`: INIT's pointer, or the last of these windows in the message
and the count of its message bytes (R136). -/
def Loaded (m : List Byte) (w : Nat) (blk : Vector Byte 64) (ptr : BitVec 7) : Prop :=
  (w = 0 ∨ m.length = 0 → ptr.toNat = 0) ∧
  ∀ i, i < w → 64 * i < m.length → (i + 1 = w ∨ m.length ≤ 64 * (i + 1)) →
    blk = blockAt m i ∧ ptr.toNat = min 64 (m.length - 64 * i)

theorem loaded_zero (m : List Byte) (blk : Vector Byte 64) : Loaded m 0 blk 0 :=
  ⟨fun _ => rfl, fun i hi => absurd hi (Nat.not_lt_zero i)⟩

theorem loaded_select {m : List Byte} {w : Nat} {ptr : BitVec 7} (hw : 64 * w < m.length)
    (hp : ptr.toNat = min 64 (m.length - 64 * w)) : Loaded m (w + 1) (blockAt m w) ptr := by
  refine ⟨fun h0 => absurd hw (by omega), fun i hi hin hlast => ?_⟩
  obtain rfl : i = w := by omega
  exact ⟨rfl, hp⟩

theorem Loaded.skip {m : List Byte} {w : Nat} {blk : Vector Byte 64} {ptr : BitVec 7} (h : Loaded m w blk ptr)
    (hw : m.length ≤ 64 * w) : Loaded m (w + 1) blk ptr := by
  obtain ⟨hnone, hlast⟩ := h
  exact ⟨fun h0 => hnone (by omega), fun i hi hin _ => hlast i (by omega) hin (by omega)⟩

/-- The windows below `hashed` are compressed, those below `selected` are selected, and in checked mode those below
`tested` hold no non-zero slack byte. -/
structure Windows (hashed selected tested : Nat) (s : State) : Prop where
  hash : s.h = hashPrefix (message s) (min hashed ((message s).length / 64))
  loaded : Loaded (message s) selected s.blk s.ptr
  slack : s.checked = true → ∀ k, k < 64 * tested → ¬ NonzeroSlack s k

/-- BLK and PTR can be taken from this candidate and this count (R136). -/
def HintFor (m : List Byte) (w : Nat) (blk : Vector Byte 64) (ptr : BitVec 7) : Prop :=
  blk = blockAt m w ∧ ptr.toNat = min 64 (m.length - 64 * w)

theorem hintFor_builder (s : State) (w : Nat) :
    HintFor (message s) w (windowBytes s w) (pointer (windowCount s w)) := by
  refine ⟨windowBytes_eq_blockAt s w, ?_⟩
  rw [pointer_toNat (windowCount_le s w), windowCount_eq, message_length]

section
variable {s t : State} {a b c : Nat}

theorem SameJob.slackBelow {n : Nat} (hj : SameJob s t)
    (h : s.checked = true → ∀ k, k < n → ¬ NonzeroSlack s k) :
    t.checked = true → ∀ k, k < n → ¬ NonzeroSlack t k := fun hc k hk => by
  rw [hj.nonzeroSlack_iff]
  exact h (hj.checked.symm.trans hc) k hk

/-- A micro-operation that writes neither H, BLK nor PTR. -/
theorem Windows.frame {i : Instr} (h : Windows a b c s) (hf : i.format = .uop32) (hx : exec i s = .next t)
    (hh : .h ∉ written s.checked i) (hb : .blk ∉ written s.checked i) (hp : .ptr ∉ written s.checked i) :
    Windows a b c t := by
  have hj := exec_sameJob hf hx
  have hh' : t.h = s.h := exec_frame (r := .h) hx hh
  have hb' : t.blk = s.blk := exec_frame (r := .blk) hx hb
  have hp' : t.ptr = s.ptr := exec_frame (r := .ptr) hx hp
  refine ⟨?_, ?_, hj.slackBelow h.slack⟩
  · rw [hh', hj.message, h.hash]
  · rw [hb', hp', hj.message]
    exact h.loaded

end

/-! The micro-operations of a window. -/

theorem init_triple (k : Nat) : Triple k (fun _ => True) .init (Windows 0 0 0) := by
  refine fun s _ _ => ⟨_, exec_init_eq s, .inl ⟨by simp [Completes, stateAfter], ?_, ?_, ?_⟩⟩
  · rw [Nat.zero_min, hashPrefix_zero]
    rfl
  · exact loaded_zero _ _
  · exact fun _ k hk => absurd hk (Nat.not_lt_zero k)

theorem build_triple (k w : Nat) : Triple k (Windows w w w) (.build w) fun s =>
    Windows w w w s ∧ (drawsHints s = false → HintFor (message s) w s.hblk s.hptr) := by
  intro s hk h
  have hr := windowReadable_of_size_le w hk.size_le
  by_cases hd : drawsHints s = true
  · have hx := exec_build_draw hr hd
    refine ⟨_, hx, .inl ⟨by simp [Completes, stateAfter], ?_, fun hd' => ?_⟩⟩
    · exact h.frame rfl hx (by simp [written]) (by simp [written]) (by simp [written])
    · cases hd.symm.trans hd'
  · have hx := exec_build_hint hr (Bool.eq_false_of_not_eq_true hd)
    refine ⟨_, hx, .inl ⟨by simp [Completes, stateAfter], ?_, fun _ => ?_⟩⟩
    · exact h.frame rfl hx (by simp [written]) (by simp [written]) (by simp [written])
    · rw [(exec_sameJob rfl hx).message]
      exact hintFor_builder s w

/-- The count SEL takes in each mode (R116, R136). -/
def selectedCount (s : State) : BitVec 7 := if s.checked then s.vptr else s.hptr

theorem vblk_unwritten (c : Bool) (w : Nat) :
    .h ∉ written c (.vblk w) ∧ .blk ∉ written c (.vblk w) ∧ .ptr ∉ written c (.vblk w) := by
  cases c <;> simp [written]

/-- An abort on the builder's hint is at the lowest non-zero slack byte (R117, R233). -/
theorem abortedByCheck_of_vblk {s : State} {w n : Nat} {cause : Cause} (hk : Running (5 * w + 2) s)
    (h : Windows w w w s) (hhint : drawsHints s = false → HintFor (message s) w s.hblk s.hptr)
    (hc : s.checked = true) (hv : windowVerdict s w = some (.abort cause n)) :
    AbortedByCheck (s.abort cause (BitVec.ofNat 32 n)) := by
  refine ⟨rfl, hc, fun hsource => ?_⟩
  obtain ⟨hh, -⟩ := hhint (drawsHints_false (.inl hsource))
  rcases windowVerdict_of_hint hh hk.size_le with hnone | ⟨j, hv', hj, hbefore⟩
  · cases hnone.symm.trans hv
  · cases hv'.symm.trans hv
    have hjob : SameJob s (s.abort .slackNonzero (BitVec.ofNat 32 (64 * w + j.val))) := ⟨rfl, rfl, rfl, rfl, rfl⟩
    have hjlt := j.isLt
    obtain ⟨hsize, hin, -⟩ := id hj
    have hcap : s.bufferSize < 2 ^ 32 := s.capacity.isLt
    refine ⟨64 * w + j.val, (hjob.lowestSlack_iff _).mpr ⟨hj, fun k' hk' => ?_⟩, rfl, ?_, ?_⟩
    · by_cases hlow : k' < 64 * w
      · exact h.slack hc k' hlow
      · have hbelow := hbefore ⟨k' - 64 * w, by omega⟩ (by rw [Fin.lt_def]; simp only; omega)
        rwa [show 64 * w + (k' - 64 * w) = k' by omega] at hbelow
    · rw [State.abort_info, BitVec.toNat_ofNat]
      exact Nat.mod_eq_of_lt (by omega)
    · rw [State.abort_upc, hk.upc]
      omega

theorem vblk_triple (w : Nat) : Triple (5 * w + 2)
    (fun s => Windows w w w s ∧ (drawsHints s = false → HintFor (message s) w s.hblk s.hptr)) (.vblk w) fun s =>
    Windows w w (w + 1) s ∧ HintFor (message s) w s.hblk (selectedCount s) := by
  rintro s hk ⟨h, hhint⟩
  by_cases hc : s.checked = true
  · rcases hv : windowVerdict s w with - | ⟨cause, n⟩ | f
    · have hpass := (windowVerdict_none_iff s w).mp hv
      have hx := exec_vblk_passes hc hpass
      have hj := exec_sameJob rfl hx
      refine ⟨_, hx, .inl ⟨by simp [Completes, stateAfter], ?_, ?_⟩⟩
      · obtain ⟨hh, hb, hp⟩ := vblk_unwritten s.checked w
        obtain ⟨hhash, hloaded, -⟩ := h.frame rfl hx hh hb hp
        refine ⟨hhash, hloaded, hj.slackBelow fun _ k hlt => ?_⟩
        by_cases hlow : k < 64 * w
        · exact h.slack hc k hlow
        · exact noSlack_of_passes hpass (Nat.le_of_not_lt hlow) hlt
      · obtain ⟨-, hp⟩ := hintFor_builder s w
        rw [hj.message, selectedCount, hj.checked, if_pos hc]
        exact ⟨hblk_of_passes hk.size_le hpass, hp⟩
    · refine ⟨_, ?_, .inr (abortedByCheck_of_vblk hk h hhint hc hv)⟩
      rw [exec_vblk_checked w hc, hv, settleTests]
    · exact absurd hv (windowVerdict_ne_fault hk.size_le w f)
  · have hc' := Bool.eq_false_of_not_eq_true hc
    have hx := exec_vblk_unchecked w hc'
    have hj := exec_sameJob rfl hx
    refine ⟨_, hx, .inl ⟨by simp [Completes, stateAfter], ?_, ?_⟩⟩
    · obtain ⟨hh, hb, hp⟩ := vblk_unwritten s.checked w
      obtain ⟨hhash, hloaded, -⟩ := h.frame rfl hx hh hb hp
      exact ⟨hhash, hloaded, fun hct => absurd (hj.checked.symm.trans hct) hc⟩
    · rw [hj.message, selectedCount, hj.checked, if_neg hc]
      exact hhint (drawsHints_false (.inr hc'))

theorem sel_triple (k w : Nat) : Triple k
    (fun s => Windows w w (w + 1) s ∧ HintFor (message s) w s.hblk (selectedCount s)) (.sel w)
    (Windows w (w + 1) (w + 1)) := by
  rintro s - ⟨⟨hhash, hloaded, hslack⟩, hblk, hptr⟩
  have hlen := message_length s
  by_cases hw : 64 * w < s.size.toNat
  · have hx := exec_sel_in hw
    have hj := exec_sameJob rfl hx
    refine ⟨_, hx, .inl ⟨by simp [Completes, stateAfter], ?_, ?_, hj.slackBelow hslack⟩⟩
    · rw [hj.message]
      exact hhash
    · rw [hj.message]
      show Loaded _ _ s.hblk (selectedCount s)
      rw [hblk]
      exact loaded_select (by omega) hptr
  · have hx := exec_sel_out (Nat.le_of_not_lt hw)
    have hj := exec_sameJob rfl hx
    refine ⟨_, hx, .inl ⟨by simp [Completes, stateAfter], ?_, ?_, hj.slackBelow hslack⟩⟩
    · rw [hj.message]
      exact hhash
    · rw [hj.message]
      exact hloaded.skip (by omega)

theorem pack_window_triple (k a b c : Nat) :
    Triple k (Windows a b c) .pack fun s => Windows a b c s ∧ s.w = packWords s.blk := by
  intro s _ h
  have hx := exec_pack_eq s
  refine ⟨_, hx, .inl ⟨by simp [Completes, stateAfter], ?_, by simp⟩⟩
  exact h.frame rfl hx (by simp [written]) (by simp [written]) (by simp [written])

/-- Window `w` is full exactly if it is in the message with a full pointer (R195). -/
theorem Loaded.full_iff {m : List Byte} {w : Nat} {blk : Vector Byte 64} {ptr : BitVec 7}
    (h : Loaded m (w + 1) blk ptr) : 64 * w < m.length ∧ ptr.toNat = 64 ↔ w < m.length / 64 := by
  obtain ⟨-, hlast⟩ := h
  refine ⟨fun ⟨hin, hfull⟩ => ?_, fun hw => ?_⟩
  · obtain ⟨-, hp⟩ := hlast w (Nat.lt_succ_self w) hin (.inl rfl)
    omega
  · obtain ⟨-, hp⟩ := hlast w (Nat.lt_succ_self w) (by omega) (.inl rfl)
    omega

theorem cmpb_triple (k w c : Nat) : Triple k (fun s => Windows w (w + 1) c s ∧ s.w = packWords s.blk) (.cmpb w)
    (Windows (w + 1) (w + 1) c) := by
  rintro s - ⟨⟨hhash, hloaded, hslack⟩, hpacked⟩
  have hlen := message_length s
  have hfull := hloaded.full_iff
  rw [hlen] at hfull
  by_cases hw : w < s.size.toNat / 64
  · obtain ⟨hin, hp⟩ := hfull.mpr hw
    have hx := exec_cmpb_taken hin hp
    have hj := exec_sameJob rfl hx
    refine ⟨_, hx, .inl ⟨by simp [Completes, stateAfter], ?_, ?_, hj.slackBelow hslack⟩⟩
    · obtain ⟨hblk, -⟩ := hloaded.2 w (Nat.lt_succ_self w) (by omega) (.inl rfl)
      rw [hj.message, hlen, Nat.min_eq_left hw, hashPrefix_succ, ← hblk, ← hpacked, ← compressFn_eq]
      rw [hlen, Nat.min_eq_left hw.le] at hhash
      rw [← hhash]
      rfl
    · rw [hj.message]
      exact hloaded
  · have hx := exec_cmpb_skipped (s := s) (i := w) (by omega)
    have hj := exec_sameJob rfl hx
    refine ⟨_, hx, .inl ⟨by simp [Completes, stateAfter], ?_, ?_, hj.slackBelow hslack⟩⟩
    · rw [hj.message, hlen, Nat.min_eq_right (by omega)]
      rw [hlen, Nat.min_eq_right (by omega)] at hhash
      exact hhash
    · rw [hj.message]
      exact hloaded

/-! The windows in order. -/

section
variable {s : State} {w : Nat} (ha : s.hostActions = [])
include ha

/-- BUILD, VBLK and SEL of one window, the whole of the partial one (R104). -/
theorem attains_select (h : Attains s (1 + 5 * w) (Windows w w w))
    (hbuild : fetchInstr s.bufferSize (1 + 5 * w) = some (.build w))
    (hvblk : fetchInstr s.bufferSize (1 + 5 * w + 1) = some (.vblk w))
    (hsel : fetchInstr s.bufferSize (1 + 5 * w + 2) = some (.sel w)) :
    Attains s (1 + 5 * w + 3) (Windows w (w + 1) (w + 1)) := by
  have hindex : 1 + 5 * w + 1 = 5 * w + 2 := by omega
  have h1 := h.step ha hbuild nofun (build_triple _ w)
  have h2 := h1.step ha hvblk nofun (hindex ▸ vblk_triple w)
  exact h2.step ha hsel nofun (sel_triple _ w)

/-- The group of one full-capacity window (R104). -/
theorem attains_window (hw : w < s.bufferSize / 64) (h : Attains s (1 + 5 * w) (Windows w w w)) :
    Attains s (1 + 5 * (w + 1)) (Windows (w + 1) (w + 1) (w + 1)) := by
  have hfetch : ∀ r, r < 5 → fetchInstr s.bufferSize (1 + 5 * w + r) = (windowGroup w)[r]? :=
    fun _ hr => fetchInstr_window hw hr
  have h3 := attains_select ha h (hfetch 0 (by omega)) (hfetch 1 (by omega)) (hfetch 2 (by omega))
  have h4 := h3.step ha (hfetch 3 (by omega)) nofun (pack_window_triple _ _ _ _)
  exact h4.step ha (hfetch 4 (by omega)) nofun (cmpb_triple _ w _)

end

/-- INIT and the first `w` windows. -/
theorem attains_windows {s : State} (h : JustAccepted s) {w : Nat} (hw : w ≤ s.bufferSize / 64) :
    Attains s (1 + 5 * w) (Windows w w w) := by
  obtain ⟨-, -, -, ha⟩ := id h
  induction w with
  | zero => exact (attains_zero h).step ha rfl nofun (init_triple 0)
  | succ w ih => exact attains_window ha hw (ih (Nat.le_of_succ_le hw))

/-- Before PTRWRAP the message is read: its full blocks are compressed, the bytes after them are in BLK, PTR counts
them modulo 64, and in checked mode there is no slack. -/
structure MessageRead (s : State) : Prop where
  hash : s.h = hashPrefix (message s) ((message s).length / 64)
  block : (message s).length % 64 ≠ 0 → s.blk = blockAt (message s) ((message s).length / 64)
  pointer : s.ptr.toNat = (message s).length % 64 ∨ (s.ptr.toNat = 64 ∧ (message s).length % 64 = 0)
  slack : s.checked = true → SlackZero s

theorem Windows.messageRead {s : State} {a b c : Nat} (h : Windows a b c s) (ha : s.size.toNat / 64 ≤ a)
    (hb : s.size.toNat ≤ 64 * b) (hc : s.bufferSize ≤ 64 * c) : MessageRead s := by
  obtain ⟨hhash, ⟨hnone, hlast⟩, hslack⟩ := h
  have hlen := message_length s
  have hlast' : 0 < s.size.toNat → s.blk = blockAt (message s) ((s.size.toNat - 1) / 64) ∧
      s.ptr.toNat = min 64 (s.size.toNat - 64 * ((s.size.toNat - 1) / 64)) := fun hpos => by
    rw [← hlen] at hpos ⊢
    exact hlast _ (by omega) (by omega) (by omega)
  rw [hlen] at hnone
  refine ⟨?_, fun hr => ?_, ?_, fun hchecked => ?_⟩
  · rw [hhash, hlen, Nat.min_eq_right ha]
  · rw [hlen] at hr ⊢
    obtain ⟨hblk, -⟩ := hlast' (by omega)
    rw [hblk, show (s.size.toNat - 1) / 64 = s.size.toNat / 64 by omega]
  · rw [hlen]
    by_cases hpos : 0 < s.size.toNat
    · obtain ⟨-, hptr⟩ := hlast' hpos
      omega
    · have hptr := hnone (.inr (by omega))
      omega
  · rw [slackZero_iff]
    rintro k ⟨hlo, hhi, hne⟩
    exact hslack hchecked k (by omega) ⟨hlo, hhi, hne⟩

theorem attains_messageRead {s : State} (h : JustAccepted s) :
    Attains s (paddingStart s.bufferSize) MessageRead := by
  obtain ⟨-, -, -, ha⟩ := id h
  have hfull := attains_windows h (Nat.le_refl (s.bufferSize / 64))
  have hread : ∀ {k b}, Attains s k (Windows (s.bufferSize / 64) b b) → s.bufferSize ≤ 64 * b →
      Attains s k MessageRead := fun hw hb => by
    refine hw.mono ha fun t hj hk ht => ?_
    have hsize := hk.size_le
    have hn := hj.bufferSize
    exact ht.messageRead (by omega) (by omega) (by omega)
  unfold paddingStart
  by_cases hn : s.bufferSize % 64 = 0
  · rw [if_pos hn]
    exact hread hfull (by omega)
  · rw [if_neg hn]
    have hfetch : ∀ r, r < 3 → fetchInstr s.bufferSize (1 + 5 * (s.bufferSize / 64) + r) =
        (tailGroup s.bufferSize)[r]? := fun _ hr => fetchInstr_tail hn hr
    rw [tailGroup, if_neg hn] at hfetch
    exact hread (attains_select ha hfull (hfetch 0 (by omega)) (hfetch 1 (by omega)) (hfetch 2 (by omega))) (by omega)

end Sys2Proof.Machine
end

section
/-! SUPPORT. The padding of a command (42_length_padding.md R152 to R163): BLK becomes the last block of the padded
message, after FLUSH has compressed the one before it where the length does not fit. -/

namespace Sys2Proof.Machine

/-! VLEN and the encoder's block. -/

theorem toNat_lengthBits {n : Nat} (h : n < 2 ^ 61) : (BitVec.ofNat 64 (8 * n)).toNat = n * 8 := by
  rw [BitVec.toNat_ofNat]
  omega

theorem paddedBlock_writeBlock_get (s : State) (b : Vector Byte 64) (j : Nat) (hj : j < 64) :
    (paddedBlock (s.writeBlock b))[j] =
      if j < 56 then (if s.ptr.toNat ≤ j then 0 else b[j])
      else byteOfDWord (BitVec.ofNat 64 (8 * s.size.toNat)) (j - 56) := by
  rw [paddedBlock_get _ j hj, State.writeBlock_ptr, State.writeBlock_size, State.writeBlock_blk]

/-- The first test of VLEN fixes the last eight bytes (R160). -/
theorem trailerTest_none_iff_bytes {s : State} (hsize : s.size.toNat < 2 ^ 61) :
    trailerTest s = none ↔
      ∀ j (hj : j < 8), s.blk[56 + j] = byteOfDWord (BitVec.ofNat 64 (8 * s.size.toNat)) j := by
  rw [trailerTest_none_iff, ← toNat_lengthBits hsize]
  refine ⟨fun h j hj => ?_, fun h => ?_⟩
  · rw [← byteOf_lengthField s.blk j hj, BitVec.eq_of_toNat_eq h]
  · have hbyte : ∀ j (hj : j < 8), (s.blk[56 + j]).toNat =
        (BitVec.ofNat 64 (8 * s.size.toNat)).toNat / 2 ^ (56 - 8 * j) % 256 := fun j hj => by
      rw [h j hj, byteOfDWord_toNat]
    have hlt := (BitVec.ofNat 64 (8 * s.size.toNat)).isLt
    rw [lengthField_toNat, hbyte 0 (by omega), hbyte 1 (by omega), hbyte 2 (by omega), hbyte 3 (by omega),
      hbyte 4 (by omega), hbyte 5 (by omega), hbyte 6 (by omega), hbyte 7 (by omega)]
    simp only [Nat.reduceMul, Nat.reduceSub, Nat.reducePow]
    omega

/-- All tests of VLEN pass exactly on the block the deterministic encoder makes of LAST (R116, R158, R160). -/
theorem lengthVerdict_none_iff_encoded {s : State} (hptr : s.ptr.toNat ≤ 56) (hsize : s.size.toNat < 2 ^ 61) :
    lengthVerdict s = none ↔ s.blk = paddedBlock (s.writeBlock s.last) := by
  rw [lengthVerdict_none_iff, trailerTest_none_iff_bytes hsize, prefixTest_none_iff, pastBlockTest_none_iff,
    fillTest_none_iff]
  refine ⟨fun ⟨htrailer, hprefix, _, hfill⟩ => Vector.ext fun j hj => ?_, fun h => ?_⟩
  · rw [paddedBlock_writeBlock_get s _ j hj]
    split
    · next h56 =>
      split
      · next hle => exact hfill ⟨j, hj⟩ hle h56
      · next hlt => exact hprefix ⟨j, hj⟩ (Nat.lt_of_not_le hlt)
    · next h56 =>
      have hbyte := htrailer (j - 56) (by omega)
      simpa only [show 56 + (j - 56) = j by omega] using hbyte
  · have hget : ∀ j (hj : j < 64), s.blk[j] =
        if j < 56 then (if s.ptr.toNat ≤ j then 0 else s.last[j])
        else byteOfDWord (BitVec.ofNat 64 (8 * s.size.toNat)) (j - 56) := fun j hj => by
      rw [← paddedBlock_writeBlock_get s _ j hj, ← h]
    refine ⟨fun j hj => ?_, fun j hlt => ?_, by omega, fun j hle h56 => ?_⟩
    · rw [hget _ (by omega), if_neg (by omega), Nat.add_sub_cancel_left]
    · exact (hget j.val j.isLt).trans (by rw [if_pos (by omega), if_neg (by omega)]; rfl)
    · exact (hget j.val j.isLt).trans (by rw [if_pos h56, if_pos hle])

/-! The assertions from PTRWRAP to CMPU. -/

/-- The bytes of the message after its full blocks are in BLK, and PTR counts them (R152). -/
structure TailRead (s : State) : Prop where
  hash : s.h = hashPrefix (message s) ((message s).length / 64)
  block : (message s).length % 64 ≠ 0 → s.blk = blockAt (message s) ((message s).length / 64)
  pointer : s.ptr.toNat = (message s).length % 64

/-- BLK agrees below PTR with the block of the padded message that holds the terminator, and is that block if the
length does not fit (R154, R156). -/
structure Terminated (s : State) : Prop where
  hash : s.h = hashPrefix (message s) ((message s).length / 64)
  pointer : s.ptr.toNat = (message s).length % 64 + 1
  low : ∀ j (hj : j < 64), j < s.ptr.toNat →
    s.blk[j] = (blockAt (paddedMessage (message s)) ((message s).length / 64))[j]
  full : 56 < s.ptr.toNat → s.blk = blockAt (paddedMessage (message s)) ((message s).length / 64)

/-- All blocks of the padded message but the last are compressed. -/
def Unfinished (s : State) : Prop :=
  s.h = hashPrefix (paddedMessage (message s)) (finalBlock (message s).length)

/-- The last block of the padded message. -/
def lastBlock (m : List Byte) : Vector Byte 64 := blockAt (paddedMessage m) (finalBlock m.length)

/-- The deterministic encoder makes the last block of `b` (R158). -/
def Encodes (s : State) (b : Vector Byte 64) : Prop :=
  s.ptr.toNat ≤ 56 ∧ paddedBlock (s.writeBlock b) = lastBlock (message s)

theorem Encodes.frame {s t : State} {b : Vector Byte 64} (h : Encodes s b) (hj : SameJob s t) (hptr : t.ptr = s.ptr) :
    Encodes t b := by
  obtain ⟨hp, hencodes⟩ := h
  refine ⟨hptr.symm ▸ hp, ?_⟩
  rw [hj.message, ← hencodes]
  refine Vector.ext fun j hlt => ?_
  rw [paddedBlock_writeBlock_get t b j hlt, paddedBlock_writeBlock_get s b j hlt, hj.size, hptr]

theorem encodes_of_prefix {s : State} {b : Vector Byte 64} (hp : s.ptr.toNat ≤ 56)
    (hend : s.size.toNat < 64 * finalBlock s.size.toNat + s.ptr.toNat)
    (hlow : ∀ j (hj : j < 64), j < s.ptr.toNat → b[j] = (lastBlock (message s))[j]) : Encodes s b := by
  refine ⟨hp, Vector.ext fun j hj => ?_⟩
  have hlen := message_length s
  rw [paddedBlock_writeBlock_get s _ j hj]
  split
  · split
    · rw [lastBlock, blockAt_get, paddedMessage_zero (by rw [hlen]; omega) (by omega)]
    · exact hlow j hj (by omega)
  · rw [lastBlock, blockAt_get, paddedMessage_lengthByte _ (by omega) hj, hlen]

/-! The micro-operations of the padding. -/

theorem ptrwrap_triple (k : Nat) : Triple k MessageRead .ptrwrap TailRead := by
  rintro s - ⟨hhash, hblock, hptr, -⟩
  by_cases hp : s.ptr.toNat = 64
  · have hx := exec_ptrwrap_full hp
    have hm := (exec_sameJob rfl hx).message
    refine ⟨_, hx, .inl ⟨by simp [Completes, stateAfter], by rwa [hm], by rwa [hm], ?_⟩⟩
    rw [hm]
    show 0 = _
    omega
  · have hx := exec_ptrwrap_other hp
    have hm := (exec_sameJob rfl hx).message
    refine ⟨_, hx, .inl ⟨by simp [Completes, stateAfter], by rwa [hm], by rwa [hm], ?_⟩⟩
    rw [hm]
    exact hptr.resolve_right fun h => hp h.1

theorem TailRead.low {s : State} (h : TailRead s) {j : Nat} (hj : j < 64) (hlt : j < s.ptr.toNat) :
    s.blk[j] = (blockAt (paddedMessage (message s)) ((message s).length / 64))[j] := by
  obtain ⟨-, hblock, hptr⟩ := h
  rw [hblock (by omega), blockAt_get, blockAt_get, paddedMessage_message (by omega)]

/-- Above the terminator a block of the message is zero, as the padded message is up to its length field. -/
theorem TailRead.high {s : State} (h : TailRead s) {j : Nat} (hj : j < 64) (hgt : s.ptr.toNat < j)
    (hlong : 56 ≤ s.ptr.toNat) :
    s.blk[j] = (blockAt (paddedMessage (message s)) ((message s).length / 64))[j] := by
  obtain ⟨-, hblock, hptr⟩ := h
  have hlen := message_length s
  have hend : finalBlock (message s).length = (message s).length / 64 + 1 := by
    unfold finalBlock
    omega
  rw [hblock (by omega), blockAt_get, blockAt_get, message_getD, if_neg (by omega),
    paddedMessage_zero (by omega) (by omega)]

theorem terminatedBlock_get {s : State} (h : TailRead s) (hp : s.ptr.toNat < 64) {j : Nat} (hj : j < 64)
    (hle : j ≤ s.ptr.toNat ∨ 56 ≤ s.ptr.toNat) :
    (s.blk.set s.ptr.toNat 0x80)[j] = (blockAt (paddedMessage (message s)) ((message s).length / 64))[j] := by
  have hptr := h.pointer
  rw [Vector.getElem_set]
  split
  · next heq =>
    rw [blockAt_get, show 64 * ((message s).length / 64) + j = (message s).length by omega, paddedMessage_terminator]
  · next hne =>
    by_cases hlt : j < s.ptr.toNat
    · exact h.low hj hlt
    · exact h.high hj (by omega) (by omega)

theorem term_triple (k : Nat) : Triple k TailRead .term Terminated := by
  intro s _ h
  have hptr := h.pointer
  have hp : s.ptr.toNat < 64 := by omega
  have hx := exec_term_eq hp
  have hm := (exec_sameJob rfl hx).message
  have hptr' := term_ptr_toNat hp
  refine ⟨_, hx, .inl ⟨by simp [Completes, stateAfter], ?_⟩⟩
  constructor <;> rw [hm]
  · exact h.hash
  · exact hptr'.trans (by rw [hptr])
  · intro j hj hlt
    refine terminatedBlock_get h hp hj (.inl ?_)
    exact Nat.le_of_lt_succ (hlt.trans_eq hptr')
  · intro hlong
    exact Vector.ext fun j hj => terminatedBlock_get h hp hj (.inr (Nat.le_of_lt_succ (hlong.trans_eq hptr')))

theorem pack_terminated_triple (k : Nat) :
    Triple k Terminated .pack fun s => Terminated s ∧ s.w = packWords s.blk := by
  rintro s - ⟨hhash, hptr, hlow, hfull⟩
  have hx := exec_pack_eq s
  have hm := (exec_sameJob rfl hx).message
  refine ⟨_, hx, .inl ⟨by simp [Completes, stateAfter], ?_, by simp⟩⟩
  constructor <;> rw [hm] <;> simpa

theorem flush_triple (k : Nat) : Triple k (fun s => Terminated s ∧ s.w = packWords s.blk) .flush
    fun s => Unfinished s ∧ Encodes s s.blk := by
  rintro s - ⟨⟨hhash, hptr, hlow, hfull⟩, hpacked⟩
  have hlen := message_length s
  rw [← hashPrefix_paddedMessage] at hhash
  by_cases hlong : 56 < s.ptr.toNat
  · have hx := exec_flush_taken hlong
    have hj := exec_sameJob rfl hx
    have hend : finalBlock (message s).length = (message s).length / 64 + 1 := by
      unfold finalBlock
      omega
    refine ⟨_, hx, .inl ⟨by simp [Completes, stateAfter], ?_, encodes_of_prefix (Nat.zero_le 56) ?_ ?_⟩⟩
    · rw [Unfinished, hj.message, hend, hashPrefix_succ, ← hfull hlong, ← hpacked, ← compressFn_eq, ← hhash]
      rfl
    · rw [hj.size, ← hlen, hend]
      omega
    · exact fun j hj hlt => absurd hlt (Nat.not_lt_zero j)
  · have hx := exec_flush_skipped (Nat.le_of_not_lt hlong)
    have hj := exec_sameJob rfl hx
    have hend : finalBlock (message s).length = (message s).length / 64 := by
      unfold finalBlock
      omega
    refine ⟨_, hx, .inl ⟨by simp [Completes, stateAfter], ?_, encodes_of_prefix (Nat.le_of_not_lt hlong) ?_ ?_⟩⟩
    · rw [Unfinished, hj.message, hend]
      exact hhash
    · rw [hj.size, ← hlen, hend, State.advance_ptr]
      omega
    · rw [hj.message, lastBlock, hend]
      exact hlow

theorem attlen_triple (k : Nat) : Triple k (fun s => Unfinished s ∧ Encodes s s.blk) .attlen
    fun s => (Unfinished s ∧ Encodes s s.last) ∧ (drawsHints s = false → s.blk = lastBlock (message s)) := by
  rintro s - ⟨hhash, hencodes⟩
  by_cases hd : drawsHints s = true
  · have hx := exec_attlen_draw hd
    have hj := exec_sameJob rfl hx
    refine ⟨_, hx, .inl ⟨by simp [Completes, stateAfter], ⟨?_, hencodes.frame hj rfl⟩, fun hd' => ?_⟩⟩
    · rw [Unfinished, hj.message]
      exact hhash
    · cases hd.symm.trans hd'
  · have hx := exec_attlen_hint (Bool.eq_false_of_not_eq_true hd)
    have hj := exec_sameJob rfl hx
    refine ⟨_, hx, .inl ⟨by simp [Completes, stateAfter], ⟨?_, hencodes.frame hj (by simp)⟩, fun _ => ?_⟩⟩
    · rw [Unfinished, hj.message]
      simpa
    · rw [hj.message]
      exact hencodes.2

/-- With the builder's hints VLEN cannot fail: BLK is the encoder's block of LAST (R115). -/
theorem vlen_triple (k : Nat) : Triple k
    (fun s => (Unfinished s ∧ Encodes s s.last) ∧ (drawsHints s = false → s.blk = lastBlock (message s))) .vlen
    fun s => Unfinished s ∧ s.blk = lastBlock (message s) := by
  rintro s hk ⟨⟨hhash, hp, hencodes⟩, hhint⟩
  have hsize : s.size.toNat < 2 ^ 61 := hk.size_lt.trans (by decide)
  have hverdict := lengthVerdict_none_iff_encoded hp hsize
  rw [hencodes] at hverdict
  have hadvance : exec .vlen s = .next s.advance → s.blk = lastBlock (message s) →
      ∃ t, exec .vlen s = .next t ∧
        (Completes .vlen s t ∧ Unfinished t ∧ t.blk = lastBlock (message t) ∨ AbortedByCheck t) := fun hx hb => by
    have hm := (exec_sameJob rfl hx).message
    refine ⟨_, hx, .inl ⟨by simp [Completes, stateAfter], ?_, ?_⟩⟩
    · rw [Unfinished, hm]
      exact hhash
    · rw [hm]
      exact hb
  by_cases hc : s.checked = true
  · have hx := exec_vlen_checked hc
    rcases hv : lengthVerdict s with - | ⟨cause, n⟩ | f
    · rw [hv] at hx
      exact hadvance hx (hverdict.mp hv)
    · rw [hv] at hx
      refine ⟨_, hx, .inr ⟨rfl, hc, fun hsource => ?_⟩⟩
      cases (hverdict.mpr (hhint (drawsHints_false (.inl hsource)))).symm.trans hv
    · exact absurd hv (lengthVerdict_ne_fault (by omega) f)
  · have hc' := Bool.eq_false_of_not_eq_true hc
    exact hadvance (exec_vlen_unchecked hc') (hhint (drawsHints_false (.inr hc')))

theorem pack_final_triple (k : Nat) : Triple k (fun s => Unfinished s ∧ s.blk = lastBlock (message s)) .pack
    fun s => Unfinished s ∧ s.w = packWords (lastBlock (message s)) := by
  rintro s - ⟨hhash, hb⟩
  have hx := exec_pack_eq s
  have hm := (exec_sameJob rfl hx).message
  refine ⟨_, hx, .inl ⟨by simp [Completes, stateAfter], ?_, ?_⟩⟩
  · rw [Unfinished, hm]
    simpa
  · rw [hm, ← hb]
    simp

/-- H is the hash of the whole padded message (R112, R163). -/
def Finished (s : State) : Prop :=
  s.h = hashPrefix (paddedMessage (message s)) (finalBlock (message s).length + 1)

theorem cmpu_triple (k : Nat) : Triple k (fun s => Unfinished s ∧ s.w = packWords (lastBlock (message s))) .cmpu
    Finished := by
  rintro s - ⟨hhash, hw⟩
  have hx := exec_cmpu_eq s
  have hm := (exec_sameJob rfl hx).message
  refine ⟨_, hx, .inl ⟨by simp [Completes, stateAfter], ?_⟩⟩
  rw [Finished, hm, hashPrefix_succ, ← lastBlock, ← hw, ← hhash, ← compressFn_eq]
  rfl

/-- The command up to DIGEST (R104). -/
theorem attains_finished {s : State} (h : JustAccepted s) :
    Attains s (paddingStart s.bufferSize + 8) Finished := by
  obtain ⟨-, -, -, ha⟩ := id h
  have hfetch := fetchInstr_padding s.bufferSize
  have h1 := (attains_messageRead h).step ha (hfetch 0) nofun (ptrwrap_triple _)
  have h2 := h1.step ha (hfetch 1) nofun (term_triple _)
  have h3 := h2.step ha (hfetch 2) nofun (pack_terminated_triple _)
  have h4 := h3.step ha (hfetch 3) nofun (flush_triple _)
  have h5 := h4.step ha (hfetch 4) nofun (attlen_triple _)
  have h6 := h5.step ha (hfetch 5) nofun (vlen_triple _)
  have h7 := h6.step ha (hfetch 6) nofun (pack_final_triple _)
  exact h7.step ha (hfetch 7) nofun (cmpu_triple _)

end Sys2Proof.Machine
end

section
/-! SUPPORT. The statements about whole commands (40_driver.md R109 to R118). -/

namespace Sys2Proof.Machine

/-- Settles O34: the tests of VLEN pass on the encoder's block of LAST alone. -/
theorem completedVlenFixesTheBlock : Obligations.CompletedVlenFixesTheBlock := by
  intro s t hc _ hptr hsize hx hna
  rcases exec_vlen_cases hx with ⟨hu, -⟩ | ⟨-, hv, -⟩ | ⟨-, c, n, -, rfl⟩
  · cases hc.symm.trans hu
  · exact (lengthVerdict_none_iff_encoded hptr hsize).mp hv
  · exact absurd rfl hna

/-- DIGEST after a run up to it ends the command at LEN(N) (R106, R108, R221). -/
theorem run_digest {s t : State} (ha : s.hostActions = [])
    (hrun : Sys2Proof.core.run (paddingStart s.bufferSize + 8) s = .next t)
    (hk : Running (paddingStart s.bufferSize + 8) t) :
    ∃ u, Sys2Proof.core.run (programLength s.bufferSize) s = .next u ∧ u.blockState = .done ∧
      u.digest = digestBytes t.h ∧ u.upc.toNat = programLength s.bufferSize := by
  obtain ⟨hj, hidle⟩ := run_sameJob ha hrun
  have hfetch : fetchInstr t.bufferSize t.upc.toNat = some .digest := by
    rw [hj.bufferSize, hk.upc]
    exact fetchInstr_padding s.bufferSize 8
  have hstep := (step_eq_exec hidle hk.busy hfetch).trans (exec_digest_eq t)
  refine ⟨_, run_snoc hrun hstep, rfl, rfl, ?_⟩
  show (t.upc + 1).toNat = _
  rw [upc_succ_toNat (fetchInstr_lt hfetch), hk.upc]
  rfl

/-- A command reaches DONE in LEN(N) steps, or a check aborts it. -/
theorem run_done_or_aborted {s : State} (h : JustAccepted s) :
    (∃ t, Sys2Proof.core.run (programLength s.bufferSize) s = .next t ∧ t.blockState = .done ∧
      t.digest = sha256 (message s) ∧ t.upc.toNat = programLength s.bufferSize) ∨
    ∃ m t, Sys2Proof.core.run m s = .next t ∧ AbortedByCheck t := by
  obtain ⟨-, -, -, ha⟩ := id h
  refine (attains_finished h).imp_left ?_
  rintro ⟨t, hrun, hk, hfinished⟩
  obtain ⟨u, hrun', hdone, hdigest, hupc⟩ := run_digest ha hrun hk
  refine ⟨u, hrun', hdone, ?_, hupc⟩
  rw [hdigest, hfinished, (run_sameJob ha hrun).1.message, sha256_eq_hashPrefix]

/-- Settles O55: a run that ends in DONE ends where the run of LEN(N) steps does. -/
theorem doneCommandHoldsTheDigest : Obligations.DoneCommandHoldsTheDigest := by
  intro s t k h hrun hd
  obtain ⟨-, -, -, ha⟩ := id h
  rcases run_done_or_aborted h with ⟨u, hrun', hdone, hdigest, -⟩ | ⟨m, u, hrun', hab⟩
  · rwa [run_end_unique ha hrun hrun' (.inl hd) (.inl hdone)]
  · obtain rfl := run_end_unique ha hrun hrun' (.inl hd) (.inr hab.aborted)
    cases hd.symm.trans hab.aborted

/-- Settles O59: both digests are that of the one message. -/
theorem digestDependsOnTheMessageAlone : Obligations.DigestDependsOnTheMessageAlone := by
  intro s s' t t' k k' h h' hm hrun hd hrun' hd'
  rw [doneCommandHoldsTheDigest s t k h hrun hd, doneCommandHoldsTheDigest s' t' k' h' hrun' hd', hm]

theorem SameJob.slackZero_iff {s t : State} (h : SameJob s t) : SlackZero t ↔ SlackZero s := by
  simp only [Machine.slackZero_iff, h.nonzeroSlack_iff]

/-- Settles O57: a command that ends in DONE passed the VBLK of every window. -/
theorem checkedDoneMeansZeroSlack : Obligations.CheckedDoneMeansZeroSlack := by
  intro s t k h hc hrun hd
  obtain ⟨-, -, -, ha⟩ := id h
  obtain ⟨u, hrun', -, hread⟩ := (attains_messageRead h).of_done ha hrun hd
  obtain ⟨hj, -⟩ := run_sameJob ha hrun'
  exact hj.slackZero_iff.mp (hread.slack (hj.checked.trans hc))

/-- With HINT_SOURCE = builder an abort is at the lowest non-zero slack byte of the command's buffer (R117). -/
theorem AbortedByCheck.lowestSlack {s t : State} (h : AbortedByCheck t) (hj : SameJob s t)
    (hsource : s.hintSource = .builder) :
    ∃ k, LowestSlack s k ∧ t.cause = .slackNonzero ∧ t.info.toNat = k ∧ t.upc.toNat = 5 * (k / 64) + 2 := by
  obtain ⟨k, hk, hreport⟩ := h.builder (hj.hintSource.trans hsource)
  exact ⟨k, (hj.lowestSlack_iff k).mp hk, hreport⟩

/-- Settles O56: a check aborts checked commands alone, and on the builder's hints for a non-zero slack byte alone. -/
theorem commandReachesDone : Obligations.CommandReachesDone := by
  intro s h hhint hslack
  obtain ⟨-, -, -, ha⟩ := id h
  rw [uprog_length]
  rcases run_done_or_aborted h with ⟨t, hrun, hdone, -, hupc⟩ | ⟨m, t, hrun, hab⟩
  · exact ⟨t, hrun, hdone, hupc⟩
  · obtain ⟨hj, -⟩ := run_sameJob ha hrun
    have hc : s.checked = true := hj.checked.symm.trans hab.checked
    have hsource := hhint.resolve_right (by rw [hc]; exact nofun)
    obtain ⟨k, ⟨hk, -⟩, -⟩ := hab.lowestSlack hj hsource
    exact absurd hk ((slackZero_iff s).mp (hslack hc) k)

theorem lowestSlack_of_reads {s : State} {k : Nat} (hlo : s.size.toNat ≤ k) (hhi : k < s.bufferSize)
    (hne : memRead s k ≠ some 0) (hbefore : ∀ k', s.size.toNat ≤ k' → k' < k → memRead s k' = some 0) :
    LowestSlack s k :=
  ⟨⟨hlo, hhi, hne⟩, fun k' hk' ⟨hlo', _, hne'⟩ => hne' (hbefore k' hlo' hk')⟩

/-- Settles O58: a non-zero slack byte keeps the command from DONE, and an aborted run ended at the lowest one. -/
theorem nonzeroSlackAbortsACheckedCommand : Obligations.NonzeroSlackAbortsACheckedCommand := by
  intro s h hsource hc
  obtain ⟨-, -, -, ha⟩ := id h
  refine ⟨fun k hlo hhi hne hbefore => ?_, fun m t hrun haborted => ?_⟩
  · have hlowest := lowestSlack_of_reads hlo hhi hne hbefore
    rcases run_done_or_aborted h with ⟨t, hrun, hdone, -, -⟩ | ⟨m, t, hrun, hab⟩
    · exact absurd hlowest.1 ((slackZero_iff s).mp (checkedDoneMeansZeroSlack s t _ h hc hrun hdone) k)
    · obtain ⟨k', hk', hcause, hinfo, hupc⟩ := hab.lowestSlack (run_sameJob ha hrun).1 hsource
      obtain rfl := hlowest.unique hk'
      exact ⟨m, t, hrun, hab.aborted, hcause, hinfo, hupc⟩
  · rcases run_done_or_aborted h with ⟨u, hrun', hdone, -, -⟩ | ⟨m', u, hrun', hab⟩
    · obtain rfl := run_end_unique ha hrun hrun' (.inr haborted) (.inl hdone)
      cases haborted.symm.trans hdone
    · obtain rfl := run_end_unique ha hrun hrun' (.inr haborted) (.inr hab.aborted)
      obtain ⟨k, ⟨hk, -⟩, hcause, -, -⟩ := hab.lowestSlack (run_sameJob ha hrun).1 hsource
      exact ⟨hcause, fun hzero => (slackZero_iff s).mp hzero k hk⟩

end Sys2Proof.Machine
end

section
/-! SUPPORT. The tests of VBLK one byte at a time: what an abort reports, and that the first byte to fail decides it
(41_block_builder_verifier.md R132; 60_exceptions.md R231, R233). -/

namespace Sys2Proof.Machine

theorem lt_bufferSize_of_memRead {s : State} {k : Nat} {b : Byte} (h : memRead s k = some b) : k < s.bufferSize := by
  by_contra hk
  cases h.symm.trans (memRead_of_le (Nat.le_of_not_lt hk))

/-- The cause and INFO that VBLK reports for byte `j` of window `i` (R132). -/
def WindowReport (s : State) (i : Nat) (j : Fin 64) (c : Cause) (n : Nat) : Prop :=
  (64 * i + j.val < s.size.toNat ∧ c = .blockByteMismatch ∧ n = 64 * i + j.val) ∨
  (s.size.toNat ≤ 64 * i + j.val ∧ s.hblk[j] ≠ 0 ∧ c = .blockPadNonzero ∧ n = j.val) ∨
  (s.size.toNat ≤ 64 * i + j.val ∧ s.hblk[j] = 0 ∧ c = .slackNonzero ∧ n = 64 * i + j.val)

/-- An abort names its test; what goes to INFO is a buffer index or an index in the block, so a 32-bit number. -/
theorem windowTest_report {s : State} {i n : Nat} {j : Fin 64} {c : Cause}
    (h : windowTest s i j = some (.abort c n)) : WindowReport s i j c n ∧ n < 2 ^ 32 := by
  have hcap : s.bufferSize < 2 ^ 32 := s.capacity.isLt
  have hread : ∀ {b}, memRead s (64 * i + j.val) = some b → 64 * i + j.val < 2 ^ 32 :=
    fun hm => Nat.lt_trans (lt_bufferSize_of_memRead hm) hcap
  unfold windowTest windowOffset at h
  simp only [lt_windowCount_iff] at h
  split at h
  · next hin =>
    split at h
    · cases h
    · next hm =>
      split at h <;> cases h
      exact ⟨.inl ⟨hin, rfl, rfl⟩, hread hm⟩
  · next hout =>
    have hout := Nat.le_of_not_lt hout
    split at h
    · next hpad =>
      cases h
      exact ⟨.inr (.inl ⟨hout, hpad, rfl, rfl⟩), Nat.lt_trans j.isLt (by decide)⟩
    · next hpad =>
      split at h
      · cases h
      · next hm =>
        split at h <;> cases h
        exact ⟨.inr (.inr ⟨hout, not_not.mp hpad, rfl, rfl⟩), hread hm⟩

/-- With SIZE at most `N` a byte that does not pass aborts (R132). -/
theorem windowTest_of_not_passes {s : State} {i : Nat} {j : Fin 64} (hsize : s.size.toNat ≤ s.bufferSize)
    (h : ¬ WindowBytePasses s i j) : ∃ c n, windowTest s i j = some (.abort c n) := by
  rcases ht : windowTest s i j with - | ⟨c, n⟩ | f
  · exact absurd ((windowTest_none_iff s i j).mp ht) h
  · exact ⟨c, n, rfl⟩
  · exact absurd ht (windowTest_ne_fault hsize i j f)

/-- The first byte to fail decides (R233). -/
theorem windowVerdict_of_first {s : State} {i : Nat} {j : Fin 64} {x : TestFailure} (hj : windowTest s i j = some x)
    (hbefore : ∀ j', j' < j → WindowBytePasses s i j') : windowVerdict s i = some x :=
  findSome_finRange_first hj fun j' hlt => (windowTest_none_iff s i j').mpr (hbefore j' hlt)

theorem exec_vblk_aborts {s : State} {i n : Nat} {c : Cause} (hc : s.checked = true)
    (hv : windowVerdict s i = some (.abort c n)) : exec (.vblk i) s = .next (s.abort c (BitVec.ofNat 32 n)) := by
  rw [exec_vblk_checked i hc, hv, settleTests]

/-- HPTR and VPTR hold the count of the window's message bytes (R130, R132). -/
theorem pointer_windowCount_toNat (s : State) (i : Nat) :
    (pointer (windowCount s i)).toNat = min 64 (s.size.toNat - 64 * i) := by
  rw [pointer_toNat (windowCount_le s i), windowCount_eq]

end Sys2Proof.Machine
end

section
/-! SUPPORT. The statements about BUILD, VBLK and SEL (41_block_builder_verifier.md R130 to R136). -/

namespace Sys2Proof.Machine

/-- The frame of a BUILD, for any hint: HBLK, HPTR and UPC are the registers written (R130). -/
theorem State.writeHint_advance_frame (s : State) (b : Vector Byte 64) (p : BitVec 7) :
    (s.writeHint b p).advance =
      { s with
        hblk := (s.writeHint b p).advance.hblk, hptr := (s.writeHint b p).advance.hptr, upc := s.upc + 1 } := rfl

/-- Settles O18: with SIZE at most `N` the window is readable, and without draws its bytes are the hint. -/
theorem buildCopiesTheWindow : Obligations.BuildCopiesTheWindow := by
  intro s i hsize hsource
  have hx := exec_build_hint (windowReadable_of_size_le i hsize) (drawsHints_false hsource)
  refine ⟨_, hx, fun j => ⟨fun hin => ?_, fun hout => ?_⟩, pointer_windowCount_toNat s i,
    State.writeHint_advance_frame s _ _, (exec_keepsInputs hx).keepsMemory⟩
  · rw [memRead_of_lt (Nat.lt_of_lt_of_le hin hsize)]
    show some _ = some (windowBytes s i)[j]
    rw [windowBytes_get, if_pos hin]
  · show (windowBytes s i)[j] = 0
    rw [windowBytes_get, if_neg (Nat.not_lt.mpr hout)]

/-- Settles O20: the tests of all bytes pass, so the verdict is none. -/
theorem vblkVerifiesAGoodWindow : Obligations.VblkVerifiesAGoodWindow := by
  intro s i hc _ hpass
  have hx := exec_vblk_passes hc hpass
  exact ⟨_, hx, pointer_windowCount_toNat s i, rfl, (exec_keepsInputs hx).keepsMemory⟩

/-- Settles O21: a checked VBLK that does not abort passed every test. -/
theorem completedVblkEstablishesTheWindow : Obligations.CompletedVblkEstablishesTheWindow := by
  intro s t i hc _ hx hna
  rcases exec_vblk_cases hx with ⟨hu, -⟩ | ⟨-, hpass, rfl⟩ | ⟨-, c, n, -, rfl⟩
  · cases hc.symm.trans hu
  · exact ⟨hpass, pointer_windowCount_toNat s i⟩
  · exact absurd rfl hna

/-- Settles O22: the abort of the first byte that does not pass, whose index fits INFO. -/
theorem vblkReportsTheFirstFailure : Obligations.VblkReportsTheFirstFailure := by
  intro s i j hc hsize hbefore hj
  obtain ⟨c, n, ht⟩ := windowTest_of_not_passes hsize hj
  obtain ⟨hreport, hn⟩ := windowTest_report ht
  refine ⟨c, BitVec.ofNat 32 n, exec_vblk_aborts hc (windowVerdict_of_first ht hbefore), ?_⟩
  rw [BitVec.toNat_ofNat, Nat.mod_eq_of_lt hn]
  exact hreport

/-- Settles O19: what the two draw is written to HBLK and HPTR, or to BLK. -/
theorem drawnHintsTouchOnlyTheHint : Obligations.DrawnHintsTouchOnlyTheHint := by
  intro s hsource hc
  have hd := drawsHints_true hsource hc
  refine ⟨fun i hsize => ?_, ?_⟩
  · have hx := exec_build_draw (windowReadable_of_size_le i hsize) hd
    have hdraw : (Config.drawPointer s.freeCount).val ≤ 64 := Fin.is_le _
    exact ⟨_, hx, (pointer_toNat hdraw).trans_le hdraw, rfl, (exec_keepsInputs hx).keepsMemory⟩
  · have hx := exec_attlen_draw hd
    exact ⟨_, hx, rfl, rfl, (exec_keepsInputs hx).keepsMemory⟩

/-- Settles O23: unchecked, neither verifier runs a test. -/
theorem uncheckedVerifiersDoNothing : Obligations.UncheckedVerifiersDoNothing :=
  fun _ hu => ⟨fun i => exec_vblk_unchecked i hu, exec_vlen_unchecked hu⟩

/-- Settles O24, by whether the window is in the message. -/
theorem selTakesWindowsOfTheMessage : Obligations.SelTakesWindowsOfTheMessage := by
  intro s i
  by_cases hi : 64 * i < s.size.toNat
  · have hx := exec_sel_in hi
    exact ⟨_, hx, fun _ => ⟨rfl, fun hc => if_pos hc, fun hu => if_neg (unchecked_ne hu)⟩,
      fun hout => absurd hi (Nat.not_lt.mpr hout), rfl, (exec_keepsInputs hx).keepsMemory⟩
  · have hx := exec_sel_out (Nat.le_of_not_lt hi)
    exact ⟨_, hx, fun hin => absurd hin hi, fun _ => ⟨rfl, rfl⟩, rfl, (exec_keepsInputs hx).keepsMemory⟩

end Sys2Proof.Machine
end

section
/-! SUPPORT. Every step keeps the invariant: what the host's actions and the commands do to a legal state, beside the
micro-operations (40_driver.md R100 to R102; 70_reset_and_hazards.md R270). -/

namespace Sys2Proof.Machine

section
variable {s : State}

/-! The host's actions. -/

/-- RESET leaves the fields of IDLE (R270). -/
theorem Legal.resetBlock (h : Legal s) : Legal s.resetBlock := by
  obtain ⟨hcanonical, hptrs, -, -⟩ := h
  exact ⟨hcanonical, hptrs, ⟨fun _ => ⟨rfl, rfl, rfl, rfl⟩, nofun, nofun, nofun, nofun⟩, nofun⟩

/-- A host write inside `[0, N)` keeps the canonical form of the buffer (R50). -/
theorem Legal.writeBuffer (h : Legal s) {k : Nat} (hk : k < s.bufferSize) (b : Byte) : Legal (s.writeBuffer k b) := by
  obtain ⟨⟨hwf, hin⟩, hrest⟩ := h
  refine ⟨⟨Memory.store_wf k b hwf, fun c hc => ?_⟩, hrest⟩
  rcases Memory.mem_store hc with rfl | hc
  · exact hk
  · exact hin c hc

/-! Commands. -/

theorem Legal.reject (h : Legal s) {c : Cause} {n : Word} (hc : c.isRejection = true) (hn : c = .sizeRange → n = 0) :
    Legal (s.reject c n) := by
  obtain ⟨hcanonical, hptrs, -, -⟩ := h
  exact ⟨hcanonical, hptrs, ⟨nofun, nofun, nofun, nofun, fun _ => ⟨hc, rfl, hn⟩⟩, nofun⟩

/-- Acceptance of a size the buffer holds: UPC is 0, before the padding (R101). -/
theorem Legal.accept (h : Legal s) (c : Bool) {size : DWord} (hsize : size.toNat ≤ s.bufferSize) :
    Legal (s.accept c size) := by
  obtain ⟨hcanonical, hptrs, -, -⟩ := h
  have hupc : (s.accept c size).upc.toNat = 0 := rfl
  refine ⟨hcanonical, hptrs, ⟨nofun, fun _ => ⟨rfl, rfl, rfl, hsize, ?_⟩, nofun, nofun, nofun⟩, fun _ => ?_⟩
  · rw [hupc, programLength_eq]
    omega
  · rw [hupc]
    omega

/-- OVR is free while BUSY (R244). -/
theorem Legal.overrun (h : Legal s) (hb : s.blockState = .busy) : Legal s.overrun := by
  obtain ⟨hcanonical, hptrs, ⟨-, hbusy, -, -, -⟩, hphase⟩ := h
  have hb' : s.overrun.blockState = .busy := hb
  refine ⟨hcanonical, hptrs, ?_, hphase⟩
  rw [StatusLegal, hb']
  exact ⟨nofun, fun _ => hbusy hb, nofun, nofun, nofun⟩

/-- An issued word is ignored, an overrun, or handled (R100). -/
theorem Legal.issueGate (h : Legal s) {f : State → State} (hf : Legal (f s)) : Legal (issueGate s f) := by
  rcases issueGate_cases s f with ⟨-, hg⟩ | ⟨hb, hg⟩ | ⟨-, hg⟩ <;> rw [hg]
  · exact h
  · exact h.overrun hb
  · exact hf

/-- HASH_VAR checks the size, and HASH_FULL takes `N` (R110, R111). -/
theorem Legal.exec_command {i : Instr} {t : State} (h : Legal s) (hf : i.format = .cmd32)
    (hx : Machine.exec i s = .next t) : Legal t := by
  cases i
  case hashVar c =>
    cases hx
    refine h.issueGate ?_
    rw [startHashVar]
    split
    · exact h.reject rfl fun _ => rfl
    · next hsize => exact h.accept c (Nat.le_of_not_lt hsize)
  case hashFull c =>
    cases hx
    exact h.issueGate (h.accept c (BitVec.toNat_setWidth_of_le (by omega)).le)
  all_goals cases hf

/-- A word written to CMD is a command, or is rejected as none (R241). -/
theorem Legal.issueWord {w : Word} {t : State} (h : Legal s) (hx : issueWord Machine.exec w s = .next t) :
    Legal t := by
  rcases issueWord_cases hx with ⟨i, hi, hxi⟩ | ⟨-, rfl⟩
  · exact h.exec_command (number_of_decode hi).1 hxi
  · exact h.issueGate (h.reject rfl nofun)

/-! The sequencer. -/

/-- The sequencer performs the micro-operation at UPC while BUSY, and rests elsewhere (R107). -/
theorem sequencerStep_fetches {t : State} (h : sequencerStep exec s = .next t) :
    t = s ∨ s.blockState = .busy ∧ ∃ i, fetchInstr s.bufferSize s.upc.toNat = some i ∧ exec i s = .next t := by
  rcases sequencerStep_cases h with ⟨-, ht⟩ | ⟨hb, u, i, hu, hd, hx⟩
  · exact .inl ht
  · obtain ⟨j, hj, rfl⟩ := Option.map_eq_some_iff.mp hu
    cases hd.symm.trans (decodeMicro_encode (fetchInstr_format hj) (fetchInstr_wellFormed s.capacity.isLt hj))
    exact .inr ⟨hb, i, hj, hx⟩

theorem Legal.sequencerStep {t : State} (h : Legal s) (hx : sequencerStep Machine.exec s = .next t) : Legal t := by
  rcases sequencerStep_fetches hx with rfl | ⟨hb, i, hi, hxi⟩
  · exact h
  · exact h.exec hb hi hxi

end

/-- Settles O51, by what a step can do: a micro-operation, a command, or another action of the host. -/
theorem everyStepKeepsLegal : Obligations.EveryStepKeepsLegal := by
  intro s t h hx
  have hacts : ∀ as, Legal (s.withActions as) := fun _ => h
  rcases step_cases hx with ⟨as, hseq⟩ | ⟨as, rfl⟩ | ⟨as, rfl⟩ | ⟨as, v, rfl⟩ | ⟨as, k, b, -, hk, rfl⟩ | ⟨as, w, hw⟩
  · exact (hacts as).sequencerStep hseq
  · exact hacts as
  · exact (hacts as).resetBlock
  · exact hacts as
  · exact (hacts as).writeBuffer hk b
  · exact (hacts as).issueWord hw

end Sys2Proof.Machine
end

section
/-! SUPPORT. The tests of VLEN in their order: the first to fail decides (42_length_padding.md R160;
60_exceptions.md R233). -/

namespace Sys2Proof.Machine

section
variable {s : State}

theorem exec_vlen_of_verdict {x : TestFailure} (hc : s.checked = true) (hv : lengthVerdict s = some x) :
    exec .vlen s = settleTests s (some x) s := by
  rw [exec_vlen_checked hc, hv]

theorem trailerTest_of_ne (h : (lengthField s.blk).toNat ≠ s.size.toNat * 8) :
    trailerTest s = some (.abort .lenTrailerMismatch 56) :=
  if_pos (by rwa [bitLength, Nat.mul_comm])

/-- The lowest byte below PTR that differs from LAST is the one reported. -/
theorem prefixTest_of_first {j : Fin 64} (hptr : j.val < s.ptr.toNat) (hj : s.blk[j] ≠ s.last[j])
    (hbefore : ∀ j' : Fin 64, j' < j → s.blk[j'] = s.last[j']) :
    prefixTest s = some (.abort .lenPrefixMismatch j.val) :=
  findSome_finRange_first (if_pos ⟨hptr, hj⟩) fun j' hlt => if_neg fun ⟨_, hne⟩ => hne (hbefore j' hlt)

theorem pastBlockTest_of_gt (h : 64 < s.ptr.toNat) : pastBlockTest s = some (.fault .pointerPastBlock) := if_pos h

/-- The lowest non-zero byte from PTR to 55 is the one reported. -/
theorem fillTest_of_first {j : Fin 64} (hptr : s.ptr.toNat ≤ j.val) (h56 : j.val < 56) (hj : s.blk[j] ≠ 0)
    (hbefore : ∀ j' : Fin 64, s.ptr.toNat ≤ j'.val → j' < j → s.blk[j'] = 0) :
    fillTest s = some (.abort .lenFillNonzero j.val) :=
  findSome_finRange_first (if_pos ⟨hptr, h56, hj⟩) fun j' hlt => if_neg fun ⟨hle, _, hne⟩ => hne (hbefore j' hle hlt)

theorem lengthVerdict_of_trailer {x : TestFailure} (h : trailerTest s = some x) : lengthVerdict s = some x := by
  rw [lengthVerdict, h, Option.some_or, Option.some_or, Option.some_or]

theorem lengthVerdict_of_prefix {x : TestFailure} (ht : trailerTest s = none) (h : prefixTest s = some x) :
    lengthVerdict s = some x := by
  rw [lengthVerdict, ht, h, Option.none_or, Option.some_or, Option.some_or]

theorem lengthVerdict_of_pastBlock {x : TestFailure} (ht : trailerTest s = none) (hp : prefixTest s = none)
    (h : pastBlockTest s = some x) : lengthVerdict s = some x := by
  rw [lengthVerdict, ht, hp, h, Option.none_or, Option.none_or, Option.some_or]

theorem lengthVerdict_of_fill {x : TestFailure} (ht : trailerTest s = none) (hp : prefixTest s = none)
    (hb : pastBlockTest s = none) (h : fillTest s = some x) : lengthVerdict s = some x := by
  rw [lengthVerdict, ht, hp, hb, h, Option.none_or, Option.none_or, Option.none_or]

end

/-! ATTLEN. -/

/-- The encoder's length field is the bit length (R158). -/
theorem lengthField_paddedBlock {s : State} (hsize : s.size.toNat < 2 ^ 61) :
    (lengthField (paddedBlock s)).toNat = s.size.toNat * 8 := by
  have htrailer : trailerTest (s.writeBlock (paddedBlock s)) = none := by
    rw [trailerTest_none_iff_bytes (by rwa [State.writeBlock_size])]
    intro j hj
    rw [State.writeBlock_blk, State.writeBlock_size, paddedBlock_get s _ (by omega), if_neg (by omega),
      Nat.add_sub_cancel_left]
  rwa [trailerTest_none_iff, State.writeBlock_blk, State.writeBlock_size] at htrailer

end Sys2Proof.Machine
end

section
/-! SUPPORT. The statements about the padding (42_length_padding.md R152 to R163). -/

namespace Sys2Proof.Machine

/-- Settles O27, by whether the length fits the block; what is compressed is R192's function. -/
theorem flushCompressesWhenTheLengthDoesNotFit : Obligations.FlushCompressesWhenTheLengthDoesNotFit := by
  intro s
  by_cases hp : 56 < s.ptr.toNat
  · have hx := exec_flush_taken hp
    exact ⟨_, hx, fun _ => ⟨compressFn_eq s.w s.h, rfl⟩, fun hle => absurd hp (Nat.not_lt.mpr hle), rfl,
      (exec_keepsInputs hx).keepsMemory⟩
  · have hx := exec_flush_skipped (Nat.le_of_not_lt hp)
    exact ⟨_, hx, fun hlt => absurd hlt hp, fun _ => ⟨rfl, rfl⟩, rfl, (exec_keepsInputs hx).keepsMemory⟩

/-- Settles O29, by whether the pointer is 64. -/
theorem ptrwrapEmptiesAFullPointer : Obligations.PtrwrapEmptiesAFullPointer := by
  intro s
  have hfull : s.ptr = 64 ↔ s.ptr.toNat = 64 := BitVec.toNat_inj.symm
  by_cases hp : s.ptr.toNat = 64
  · have hx := exec_ptrwrap_full hp
    exact ⟨_, hx, fun _ => rfl, fun hne => absurd (hfull.mpr hp) hne, rfl, (exec_keepsInputs hx).keepsMemory⟩
  · have hx := exec_ptrwrap_other hp
    exact ⟨_, hx, fun heq => absurd (hfull.mp heq) hp, fun _ => rfl, rfl, (exec_keepsInputs hx).keepsMemory⟩

/-- Settles O30: a write of one byte of BLK, at an index the block has. -/
theorem termWritesTheTerminator : Obligations.TermWritesTheTerminator := by
  intro s hptr
  have hp : s.ptr.toNat < 64 := Nat.lt_succ_of_le hptr
  have hx := exec_term_eq hp
  refine ⟨_, hx, term_ptr_toNat hp, fun j => ⟨fun heq => ?_, fun hne => ?_⟩, rfl, (exec_keepsInputs hx).keepsMemory⟩
  · show (s.blk.set s.ptr.toNat 0x80)[j.val] = 0x80
    rw [Vector.getElem_set, if_pos heq.symm]
  · show (s.blk.set s.ptr.toNat 0x80)[j.val] = s.blk[j.val]
    rw [Vector.getElem_set, if_neg (Ne.symm hne)]

/-- Settles O31: TERM's index is none of BLK's; the third test of VLEN fails where the first two pass. -/
theorem pointerPastTheBlockStops : Obligations.PointerPastTheBlockStops := by
  refine fun s => ⟨exec_term_stops, fun hptr hc hlast htrailer => ?_⟩
  rw [Nat.mul_comm] at htrailer
  have hprefix : prefixTest s = none := (prefixTest_none_iff s).mpr fun j _ => by rw [hlast]
  exact exec_vlen_of_verdict hc
    (lengthVerdict_of_pastBlock ((trailerTest_none_iff s).mpr htrailer) hprefix (pastBlockTest_of_gt hptr))

/-- The frame of an ATTLEN, for any block: BLK, LAST and UPC are the registers written (R158). -/
theorem State.writeLast_advance_frame (s : State) (b l : Vector Byte 64) :
    ((s.writeBlock b).writeLast l).advance =
      { s with
        blk := ((s.writeBlock b).writeLast l).advance.blk, last := ((s.writeBlock b).writeLast l).advance.last,
        upc := s.upc + 1 } := rfl

/-- Settles O32: without draws ATTLEN writes the encoder's block. -/
theorem attlenWritesTheLength : Obligations.AttlenWritesTheLength := by
  intro s hsource
  have hx := exec_attlen_hint (drawsHints_false hsource)
  refine ⟨_, hx, rfl, fun j => ⟨fun hlt h56 => ?_, fun hle h56 => ?_⟩, fun hsize => ?_,
    State.writeLast_advance_frame s _ _, (exec_keepsInputs hx).keepsMemory⟩
  · show (paddedBlock s)[j.val] = s.blk[j.val]
    rw [paddedBlock_get s j.val j.isLt, if_pos h56, if_neg (Nat.not_le.mpr hlt)]
  · show (paddedBlock s)[j.val] = 0
    rw [paddedBlock_get s j.val j.isLt, if_pos h56, if_pos hle]
  · exact (lengthField_toNat (paddedBlock s)).symm.trans (lengthField_paddedBlock hsize)

/-- Settles O33: each of the four tests passes. -/
theorem vlenVerifiesAGoodBlock : Obligations.VlenVerifiesAGoodBlock := by
  intro s hc hptr htrailer hprefix hfill
  have hverdict : lengthVerdict s = none := (lengthVerdict_none_iff s).mpr
    ⟨(trailerTest_none_iff s).mpr htrailer, (prefixTest_none_iff s).mpr hprefix, (pastBlockTest_none_iff s).mpr hptr,
      (fillTest_none_iff s).mpr hfill⟩
  rw [exec_vlen_checked hc, hverdict]
  rfl

/-- Settles O35, test by test: the first that fails decides, and it reports its lowest byte. -/
theorem vlenReportsTheFirstFailure : Obligations.VlenReportsTheFirstFailure := by
  refine fun s hc => ⟨fun htrailer => ?_, fun htrailer => ?_⟩
  · exact exec_vlen_of_verdict hc (lengthVerdict_of_trailer (trailerTest_of_ne htrailer))
  · have ht : trailerTest s = none := (trailerTest_none_iff s).mpr htrailer
    refine ⟨fun j hptr hj hbefore => ?_, fun j hptr h56 hj hprefix hbefore => ?_⟩
    · exact exec_vlen_of_verdict hc (lengthVerdict_of_prefix ht (prefixTest_of_first hptr hj hbefore))
    · have hinside : pastBlockTest s = none := (pastBlockTest_none_iff s).mpr (by omega)
      exact exec_vlen_of_verdict hc (lengthVerdict_of_fill ht ((prefixTest_none_iff s).mpr hprefix) hinside
        (fillTest_of_first hptr h56 hj hbefore))

end Sys2Proof.Machine
end

section
/-! SUPPORT. The digest function of R163 and R112 against the spec: the parts of the padded message, and the hash of
one block more. -/

namespace Sys2Proof.Machine

/-! The padded message. -/

/-- The padded message is `ceil((SIZE + 9) / 64)` blocks (R113). -/
theorem paddedMessage_length_eq_ceil (m : List Byte) :
    (paddedMessage m).length = 64 * ((m.length + 9 + 63) / 64) := by
  rw [paddedMessage_length, finalBlock]
  omega

theorem paddedMessage_take (m : List Byte) : (paddedMessage m).take m.length = m := by
  rw [paddedMessage, List.append_assoc, List.append_assoc, List.take_left]

theorem paddedMessage_getElem?_terminator (m : List Byte) : (paddedMessage m)[m.length]? = some 0x80 := by
  rw [paddedMessage, List.append_assoc, List.append_assoc, List.getElem?_append_right (Nat.le_refl _), Nat.sub_self]
  rfl

/-- With that many zero bytes the message fills whole blocks (R163). -/
theorem paddingZeros_fills (len : Nat) : (len + 1 + paddingZeros len + 8) % 64 = 0 := by
  rw [paddingZeros_end]
  omega

theorem paddingZeros_least {len z : Nat} (hz : z < paddingZeros len) : (len + 1 + z + 8) % 64 ≠ 0 := by
  unfold paddingZeros at hz
  omega

/-! The length field as a number. -/

/-- The big-endian number of a list of bytes (R15). -/
def bigEndian (bytes : List Byte) : Nat := bytes.foldl (fun n b => 256 * n + b.toNat) 0

theorem bigEndian_concat (bytes : List Byte) (b : Byte) : bigEndian (bytes ++ [b]) = 256 * bigEndian bytes + b.toNat :=
  List.foldl_concat _ _ _ _

/-- The first `k` bytes of a double word are its high bits. -/
theorem bigEndian_prefix (d : DWord) {k : Nat} (hk : k ≤ 8) :
    bigEndian ((List.range k).map (byteOfDWord d)) = d.toNat / 2 ^ (64 - 8 * k) := by
  induction k with
  | zero => exact (Nat.div_eq_of_lt d.isLt).symm
  | succ k ih =>
    have hpow : 2 ^ (64 - 8 * k) = 2 ^ (56 - 8 * k) * 256 := by
      rw [show 64 - 8 * k = 56 - 8 * k + 8 by omega, Nat.pow_add]
    rw [List.range_succ, List.map_append, List.map_singleton, bigEndian_concat, ih (by omega), byteOfDWord_toNat, hpow,
      ← Nat.div_div_eq_div_mul, Nat.div_add_mod, show 64 - 8 * (k + 1) = 56 - 8 * k by omega]

theorem bigEndian_dword (d : DWord) : bigEndian ((List.range 8).map (byteOfDWord d)) = d.toNat := by
  rw [bigEndian_prefix d (Nat.le_refl 8), Nat.pow_zero, Nat.div_one]

/-! One block more. -/

theorem blockAt_append_left {bytes : List Byte} {i : Nat} (hi : 64 * i + 64 ≤ bytes.length) (more : List Byte) :
    blockAt (bytes ++ more) i = blockAt bytes i := by
  refine Vector.ext fun j hj => ?_
  rw [blockAt_get, blockAt_get, List.getD_append _ _ _ _ (by omega)]

theorem blockAt_append_block {bytes : List Byte} {n : Nat} (hn : bytes.length = 64 * n) (b : Vector Byte 64) :
    blockAt (bytes ++ b.toList) n = b := by
  refine Vector.ext fun j hj => ?_
  rw [blockAt_get, List.getD_append_right _ _ _ _ (by omega), hn, Nat.add_sub_cancel_left,
    List.getD_eq_getElem _ _ (by simpa), Vector.getElem_toList]

/-- One block more is compressed onto the hash of the blocks before it (R112, R194). -/
theorem hashBlocks_append_block {bytes : List Byte} (h : bytes.length % 64 = 0) (b : Vector Byte 64) :
    hashBlocks (bytes ++ b.toList) = sha256Compress (packWords b) (hashBlocks bytes) := by
  obtain ⟨n, hn⟩ := Nat.dvd_of_mod_eq_zero h
  have hlen : (bytes ++ b.toList).length = 64 * (n + 1) := by
    rw [List.length_append, Vector.length_toList, hn, Nat.mul_succ]
  rw [hashBlocks_eq_hashPrefix hlen, hashPrefix_succ, blockAt_append_block hn, hashBlocks_eq_hashPrefix hn,
    hashPrefix_congr fun i hi => blockAt_append_left (by omega) b.toList]

/-! Known answers (95_test_vectors.md V2, V1, V8). -/

theorem sha256_empty : sha256 [] = #v[0xe3, 0xb0, 0xc4, 0x42, 0x98, 0xfc, 0x1c, 0x14, 0x9a, 0xfb, 0xf4, 0xc8, 0x99,
    0x6f, 0xb9, 0x24, 0x27, 0xae, 0x41, 0xe4, 0x64, 0x9b, 0x93, 0x4c, 0xa4, 0x95, 0x99, 0x1b, 0x78, 0x52, 0xb8,
    0x55] := by
  decide +kernel

theorem sha256_oneByte : sha256 [0xbd] = #v[0x68, 0x32, 0x57, 0x20, 0xaa, 0xbd, 0x7c, 0x82, 0xf3, 0x0f, 0x55, 0x4b,
    0x31, 0x3d, 0x05, 0x70, 0xc9, 0x5a, 0xcc, 0xbb, 0x7d, 0xc4, 0xb5, 0xaa, 0xe1, 0x12, 0x04, 0xc0, 0x8f, 0xfe, 0x73,
    0x2b] := by
  decide +kernel

theorem sha256_abc : sha256 [0x61, 0x62, 0x63] = #v[0xba, 0x78, 0x16, 0xbf, 0x8f, 0x01, 0xcf, 0xea, 0x41, 0x41, 0x40,
    0xde, 0x5d, 0xae, 0x22, 0x23, 0xb0, 0x03, 0x61, 0xa3, 0x96, 0x17, 0x7a, 0x9c, 0xb4, 0x10, 0xff, 0x61, 0xf2, 0x00,
    0x15, 0xad] := by
  decide +kernel

/-- Settles O54: the padded message by its parts, the hash block by block, the known answers by evaluation. -/
theorem digestFunctionIsSha256 : Obligations.DigestFunctionIsSha256 := by
  refine ⟨fun m => ⟨paddedMessage_length_eq_ceil m, paddedMessage_take m, paddedMessage_getElem?_terminator m,
    paddingZeros m.length, _, rfl, paddingZeros_fills _, fun _ => paddingZeros_least, by simp, ?_⟩, rfl,
    fun _ b h => hashBlocks_append_block h b, fun _ => rfl, sha256_empty, sha256_oneByte, sha256_abc⟩
  exact (bigEndian_dword _).trans (BitVec.toNat_ofNat _ _)

end Sys2Proof.Machine
end

section
/-! SUPPORT. The statements about the Word Packer (43_word_packer.md). -/

namespace Sys2Proof.Machine

theorem be32_byteOfWord (w : Word) :
    be32 (byteOfWord w 0) (byteOfWord w 1) (byteOfWord w 2) (byteOfWord w 3) = w := by
  apply BitVec.eq_of_toNat_eq
  have hw := w.isLt
  simp only [be32_toNat, byteOfWord_toNat]
  omega

theorem byteOfWord_be32 (b : Vector Byte 4) (k : Nat) (hk : k < 4) :
    byteOfWord (be32 b[0] b[1] b[2] b[3]) k = b[k] := by
  apply BitVec.eq_of_toNat_eq
  have h0 := b[0].isLt
  have h1 := b[1].isLt
  have h2 := b[2].isLt
  have h3 := b[3].isLt
  rw [byteOfWord_toNat, be32_toNat]
  interval_cases k <;> simp only [Nat.reduceMul, Nat.reduceSub] <;> omega

/-- Settles O25: PACK writes the packed block to W, whose words are read off as numbers. -/
theorem packIsBigEndian : Obligations.PackIsBigEndian := by
  intro s
  have hx := exec_pack_eq s
  refine ⟨_, hx, fun j hj => ?_, rfl, (exec_keepsInputs hx).keepsMemory⟩
  simp only [State.advance_w, State.writeWords_w]
  rw [packWords_get s.blk j hj, be32_toNat]

/-- Settles O37: each direction compares numbers; the four bytes are taken by their place in the word. -/
theorem packingAndDigestLayoutAreInverse : Obligations.PackingAndDigestLayoutAreInverse := by
  refine ⟨be32_byteOfWord, fun b0 b1 b2 b3 => ?_⟩
  have hbyte := byteOfWord_be32 #v[b0, b1, b2, b3]
  exact ⟨hbyte 0 (by decide), hbyte 1 (by decide), hbyte 2 (by decide), hbyte 3 (by decide)⟩

end Sys2Proof.Machine
end

section
/-! SUPPORT. The reference compression function (44_compression.md R202 to R205): the schedule read from its end, and
the rounds one after another. -/

namespace Sys2Proof.Machine

/-! The schedule. -/

theorem extendSchedule_succ (n : Nat) (l : List Word) :
    extendSchedule (n + 1) l = nextScheduleWord (extendSchedule n l) :: extendSchedule n l := by
  induction n generalizing l with
  | zero => rfl
  | succ n ih => exact ih (nextScheduleWord l :: l)

theorem extendSchedule_length (n : Nat) (l : List Word) : (extendSchedule n l).length = l.length + n := by
  induction n with
  | zero => rfl
  | succ n ih => rw [extendSchedule_succ, List.length_cons, ih, Nat.add_assoc]

/-- Without its `k` newest words an extended list is the list extended by so many words less. -/
theorem extendSchedule_drop (n k : Nat) (l : List Word) :
    (extendSchedule (n + k) l).drop k = extendSchedule n l := by
  induction k with
  | zero => rfl
  | succ k ih => rw [← Nat.add_assoc, extendSchedule_succ, List.drop_succ_cons, ih]

theorem schedule_length (w : Vector Word 16) : (schedule w).length = 64 := by
  rw [schedule, List.length_reverse, extendSchedule_length, List.length_reverse, Vector.length_toList]

/-- After `n` extensions the list holds the words up to `X[n + 15]`, the newest at offset 0. -/
theorem extendSchedule_getElem? (w : Vector Word 16) {n k : Nat} (hn : n ≤ 48) (hk : k < n + 16) :
    (extendSchedule n w.toList.reverse)[k]? = (schedule w)[n + 15 - k]? := by
  have hlen := schedule_length w
  rw [schedule, List.length_reverse] at hlen
  have hdrop := extendSchedule_drop n (48 - n) w.toList.reverse
  rw [Nat.add_sub_cancel' hn] at hdrop
  rw [← hdrop, List.getElem?_drop, schedule, List.getElem?_reverse (by omega), hlen]
  congr 1
  omega

theorem schedule_getElem?_block (w : Vector Word 16) (t : Nat) (ht : t < 16) : (schedule w)[t]? = some w[t] := by
  have hword := extendSchedule_getElem? w (n := 0) (k := 15 - t) (by decide) (by omega)
  rw [extendSchedule, List.getElem?_reverse (by rw [Vector.length_toList]; omega), Vector.length_toList,
    show 15 - (15 - t) = t by omega] at hword
  rw [← hword, List.getElem?_eq_getElem (by rwa [Vector.length_toList]), Vector.getElem_toList]

theorem schedule_getElem?_recurrence (w : Vector Word 16) (t : Nat) (hlo : 16 ≤ t) (hhi : t < 64) :
    (schedule w)[t]? = some (smallSigma1 ((schedule w).getD (t - 2) 0) + (schedule w).getD (t - 7) 0 +
      smallSigma0 ((schedule w).getD (t - 15) 0) + (schedule w).getD (t - 16) 0) := by
  obtain ⟨n, rfl⟩ := Nat.exists_eq_add_of_le' hlo
  have hword (k : Nat) (hk : k < 16) : (extendSchedule n w.toList.reverse).getD k 0 =
      (schedule w).getD (n + 15 - k) 0 := by
    rw [List.getD_eq_getElem?_getD, extendSchedule_getElem? w (by omega) (by omega), ← List.getD_eq_getElem?_getD]
  have hnext := extendSchedule_getElem? w (n := n + 1) (k := 0) (by omega) (by omega)
  rw [extendSchedule_succ, List.getElem?_cons_zero, nextScheduleWord, hword 1 (by decide), hword 6 (by decide),
    hword 14 (by decide), hword 15 (by decide)] at hnext
  exact hnext.symm

/-! The rounds. -/

theorem runRounds_take_succ {t : Nat} {ks xs : List Word} (hk : t < ks.length) (hx : t < xs.length) (v : Working) :
    runRounds (ks.take (t + 1)) (xs.take (t + 1)) v =
      compressionRound (runRounds (ks.take t) (xs.take t) v) (ks.getD t 0) (xs.getD t 0) := by
  induction t generalizing ks xs v with
  | zero =>
    obtain ⟨k, ks, rfl⟩ := List.exists_cons_of_length_pos hk
    obtain ⟨x, xs, rfl⟩ := List.exists_cons_of_length_pos hx
    rfl
  | succ t ih =>
    obtain ⟨k, ks, rfl⟩ := List.exists_cons_of_length_pos (Nat.zero_lt_of_lt hk)
    obtain ⟨x, xs, rfl⟩ := List.exists_cons_of_length_pos (Nat.zero_lt_of_lt hx)
    exact ih (Nat.lt_of_succ_lt_succ hk) (Nat.lt_of_succ_lt_succ hx) (compressionRound v k x)

/-- The working variables before round `t` (R203). -/
def workingAt (w : Vector Word 16) (hs : Vector Word 8) (t : Nat) : Working :=
  runRounds (roundConstants.take t) ((schedule w).take t) (startWorking hs)

theorem workingAt_zero (w : Vector Word 16) (hs : Vector Word 8) : workingAt w hs 0 = startWorking hs := rfl

theorem workingAt_succ (w : Vector Word 16) (hs : Vector Word 8) {t : Nat} (ht : t < 64) :
    workingAt w hs (t + 1) =
      compressionRound (workingAt w hs t) (roundConstants.getD t 0) ((schedule w).getD t 0) :=
  runRounds_take_succ ht (by rwa [schedule_length]) _

theorem workingAt_end (w : Vector Word 16) (hs : Vector Word 8) :
    workingAt w hs 64 = runRounds roundConstants (schedule w) (startWorking hs) := by
  rw [workingAt, List.take_of_length_le (l := schedule w) (schedule_length w).le]
  rfl

/-! The worked example (R205): the block of "abc". -/

theorem schedule_abc :
    let X := schedule #v[0x61626380, 0, 0, 0, 0, 0, 0, 0, 0, 0, 0, 0, 0, 0, 0, 0x18]
    X[16]? = some 0x61626380 ∧ X[17]? = some 0x000f0000 ∧ X[18]? = some 0x7da86405 ∧ X[19]? = some 0x600003c6 ∧
      X[63]? = some 0x12b1edeb := by
  decide +kernel

theorem sha256Compress_abc :
    sha256Compress #v[0x61626380, 0, 0, 0, 0, 0, 0, 0, 0, 0, 0, 0, 0, 0, 0, 0x18] initialHash =
      #v[0xba7816bf, 0x8f01cfea, 0x414140de, 0x5dae2223, 0xb00361a3, 0x96177a9c, 0xb410ff61, 0xf20015ad] := by
  decide +kernel

/-- Settles O38: the schedule by the list that holds its newest word first, the rounds by those before each of them,
the worked example by evaluation. -/
theorem compressionFollowsTheReference : Obligations.CompressionFollowsTheReference := by
  refine ⟨compressFn_eq, fun w => ⟨schedule_length w, schedule_getElem?_block w, schedule_getElem?_recurrence w⟩,
    rfl, fun w hs => ⟨workingAt w hs, workingAt_zero w hs, fun t ht => ?_, ?_⟩, ?_⟩
  · rw [workingAt_succ w hs ht]
    exact ⟨rfl, rfl, rfl, rfl, rfl, rfl, rfl, rfl⟩
  · simp only [workingAt_end, sha256Compress]
  · rintro w rfl
    obtain ⟨h16, h17, h18, h19, h63⟩ := schedule_abc
    exact ⟨h16, h17, h18, h19, h63, sha256Compress_abc⟩

end Sys2Proof.Machine
end

section
/-! SUPPORT. The statements about the instructions that write H (44_compression.md R193 to R197). -/

namespace Sys2Proof.Machine

/-- Settles O40: INIT, CMPB, FLUSH and CMPU have H among the registers they write, and of the last three a form that
changes H is the one that compresses. -/
theorem hashChangesOnlyByCompression : Obligations.HashChangesOnlyByCompression := by
  intro i s t hx hinit hne
  obtain ⟨hwriters, -⟩ := written_writers s.checked i
  rcases hwriters (mem_written_of_ne (r := .h) hx hne) with rfl | ⟨n, rfl⟩ | rfl | rfl
  · exact absurd rfl hinit
  · rcases exec_cmpb_cases hx with ⟨-, -, rfl⟩ | ⟨-, rfl⟩
    · exact ⟨.inl ⟨n, rfl⟩, compressFn_eq s.w s.h⟩
    · exact absurd rfl hne
  · rcases exec_flush_cases hx with ⟨-, rfl⟩ | ⟨-, rfl⟩
    · exact ⟨.inr (.inl rfl), compressFn_eq s.w s.h⟩
    · exact absurd rfl hne
  · obtain rfl := Host.Outcome.next.inj hx
    exact ⟨.inr (.inr rfl), compressFn_eq s.w s.h⟩

/-- Settles O17: INIT heads the list of every UPROG(N), and its three writes are read back. -/
theorem initLoadsTheInitialHash : Obligations.InitLoadsTheInitialHash := by
  refine ⟨fun n => (fetchWord_eq_getElem? n 0).symm, fun s => ?_⟩
  have hx := exec_init_eq s
  exact ⟨_, hx, rfl, fun j => Vector.getElem_replicate j.isLt, rfl, rfl, (exec_keepsInputs hx).keepsMemory⟩

/-- Settles O26, by whether the window is in the message and full; what is compressed is R192's function. -/
theorem cmpbCompressesFullWindows : Obligations.CmpbCompressesFullWindows := by
  intro s i
  have hfull : s.ptr = 64 ↔ s.ptr.toNat = 64 := BitVec.toNat_inj.symm
  by_cases hi : 64 * i < s.size.toNat ∧ s.ptr.toNat = 64
  · obtain ⟨hin, hp⟩ := hi
    have hx := exec_cmpb_taken hin hp
    refine ⟨_, hx, fun _ => compressFn_eq s.w s.h, fun hout => ?_, rfl, (exec_keepsInputs hx).keepsMemory⟩
    exact absurd (hout.imp_right (mt hfull.mpr)) (by omega)
  · have hx := exec_cmpb_skipped (s := s) (i := i) (by omega)
    exact ⟨_, hx, fun hin => absurd (hin.imp_right hfull.mp) hi, fun _ => rfl, rfl,
      (exec_keepsInputs hx).keepsMemory⟩

/-- Settles O28: CMPU has one form, which compresses; what it computes is R192's function. -/
theorem cmpuAlwaysCompresses : Obligations.CmpuAlwaysCompresses := by
  intro s
  have hx := exec_cmpu_eq s
  exact ⟨_, hx, compressFn_eq s.w s.h, rfl, (exec_keepsInputs hx).keepsMemory⟩

end Sys2Proof.Machine
end

section
/-! SUPPORT. The statement about DIGEST (45_digest.md R221, R222). -/

namespace Sys2Proof.Machine

/-- After DIGEST the word view of D gives H back (R28, R221). -/
theorem hostRead_digestWord_of_exec_digest {s t : State} (hx : exec .digest s = .next t) (j : Fin 8) :
    hostRead (.digestWord j) t = .ok s.h[j] := by
  obtain rfl := Host.Outcome.next.inj ((exec_digest_eq s).symm.trans hx)
  exact (hostRead_digestWord_done rfl j).trans (congrArg Except.ok (be32_digestBytes s.h j.val j.isLt))

/-- Settles O36: byte `D[4j + b]` is byte `b` of `H[j]`, which is read as a number, and the four together give the
word back. -/
theorem digestSerialisesTheHash : Obligations.DigestSerialisesTheHash := by
  intro s
  have hx := exec_digest_eq s
  refine ⟨_, hx, rfl, fun j hj b hb => ?_, hostRead_digestWord_of_exec_digest hx, rfl,
    (exec_keepsInputs hx).keepsMemory⟩
  calc (digestBytes s.h)[4 * j + b].toNat
      _ = (byteOfWord s.h[j] b).toNat := congrArg BitVec.toNat (digestBytes_get s.h j b hj hb)
      _ = s.h[j].toNat / 2 ^ (24 - 8 * b) % 256 := byteOfWord_toNat s.h[j] b

end Sys2Proof.Machine
end

section
/-! SUPPORT. A word written to CMD as one gate (40_driver.md R100; 60_exceptions.md R243): by STATE it is ignored, an
overrun or handled, whatever the word spells; and the words that spell no command (30_encoding.md R75). -/

namespace Sys2Proof

open Laws.EncodeFields (number)

/-- A legal command word is the number of HASH_VAR or HASH_FULL, so its OP is 1 or 2 and its RSV is 0 (R73, R75). -/
theorem decode_command_error_of_reserved {w : Word}
    (h : (w.toNat % 256 ≠ 1 ∧ w.toNat % 256 ≠ 2) ∨ w.toNat / 512 ≠ 0) : ∃ e, decode .cmd32 w = .error e := by
  cases hd : decode .cmd32 w with
  | error e => exact ⟨e, rfl⟩
  | ok i =>
    obtain ⟨hf, hn⟩ := number_of_decode hd
    cases i
    case hashVar c | hashFull c =>
      have hc := c.toNat_le
      rw [number] at hn
      omega
    all_goals cases hf

end Sys2Proof

namespace Sys2Proof.Machine

variable {s : State} {w : Word}

/-- Every issued word goes through the gate: `decode` picks only what is done in a state that accepts commands. -/
theorem issueWord_eq_issueGate (w : Word) : ∃ handle, ∀ s, issueWord exec w s = .next (issueGate s handle) := by
  cases hd : decode .cmd32 w with
  | error e => exact ⟨fun t => t.reject .illegalCmd w, fun s => by rw [issueWord, hd]; rfl⟩
  | ok i =>
    have hf := (number_of_decode hd).1
    cases i
    case hashVar c => exact ⟨startHashVar c, fun _ => issueWord_of_decode hd⟩
    case hashFull c => exact ⟨startHashFull c, fun _ => issueWord_of_decode hd⟩
    all_goals cases hf

theorem issueWord_of_busy (hb : s.blockState = .busy) (w : Word) : issueWord exec w s = .next s.overrun := by
  obtain ⟨handle, hw⟩ := issueWord_eq_issueGate w
  rw [hw, issueGate_busy hb]

theorem issueWord_of_aborted (hb : s.blockState = .aborted) (w : Word) : issueWord exec w s = .next s := by
  obtain ⟨handle, hw⟩ := issueWord_eq_issueGate w
  rw [hw, issueGate_aborted hb]

theorem issueWord_of_illegal (ha : AcceptsCommands s) (hw : ∃ e, decode .cmd32 w = .error e) :
    issueWord exec w s = .next (s.reject .illegalCmd w) := by
  obtain ⟨e, he⟩ := hw
  rw [issueWord, he]
  exact congrArg Host.Outcome.next (issueGate_accepts ha)

end Sys2Proof.Machine
end

section
/-! SUPPORT. The statements about aborts and rejections (60_exceptions.md R231 to R244). -/

namespace Sys2Proof.Machine

/-- The ways into ABORTED: STATE changes to it by a verifier in checked mode alone, whose first failing test names
the cause (R231, R234). -/
theorem exec_enters_aborted {i : Instr} {s t : State} (hx : exec i s = .next t) (hs : s.blockState ≠ .aborted)
    (ht : t.blockState = .aborted) :
    ((∃ n, i = .vblk n) ∨ i = .vlen) ∧ s.checked = true ∧ ∃ c n, c.isAbort = true ∧ t = s.abort c n := by
  obtain ⟨-, -, hstate, -, -⟩ := exec_status_writers hx
  have hverifier : ((∃ n, i = .vblk n) ∨ i = .vlen) ∧ s.checked = true := by
    simpa [ht] using hstate (fun he => hs (he.symm.trans ht))
  obtain ⟨hi, hc⟩ := hverifier
  refine ⟨hi, hc, ?_⟩
  rcases hi with ⟨n, rfl⟩ | rfl
  · rcases exec_vblk_cases hx with ⟨-, rfl⟩ | ⟨-, -, rfl⟩ | ⟨-, c, m, hv, rfl⟩
    · exact absurd ht hs
    · exact absurd ht hs
    · exact ⟨c, _, by rcases windowVerdict_abort hv with rfl | rfl | rfl <;> rfl, rfl⟩
  · rcases exec_vlen_cases hx with ⟨-, rfl⟩ | ⟨-, -, rfl⟩ | ⟨-, c, m, hv, rfl⟩
    · exact absurd ht hs
    · exact absurd ht hs
    · exact ⟨c, _, by rcases lengthVerdict_abort hv with rfl | rfl | rfl <;> rfl, rfl⟩

/-- Settles O39: the only way into ABORTED is the abort of a verifier in checked mode. -/
theorem abortsArePreciseAndChecked : Obligations.AbortsArePreciseAndChecked := by
  intro i s t hx hs ht
  obtain ⟨hi, hc, c, n, hcause, rfl⟩ := exec_enters_aborted hx hs ht
  exact ⟨rfl, hcause, hc, hi⟩

/-- Settles O14: a word with a reserved OP or a bit of RSV does not decode, so the gate hands it to the rejection. -/
theorem illegalCommandIsRejected : Obligations.IllegalCommandIsRejected := by
  refine ⟨rfl, fun s w rest haccepts ha hw => ?_⟩
  rw [step_of_writeReg ha]
  exact issueWord_of_illegal (s := s.withActions rest) haccepts (decode_command_error_of_reserved hw)

/-- Settles O15: while BUSY the gate turns every word into an overrun. -/
theorem commandWhileBusyOnlySetsOvr : Obligations.CommandWhileBusyOnlySetsOvr := by
  intro s w rest hb ha
  rw [step_of_writeReg ha]
  exact issueWord_of_busy (s := s.withActions rest) hb w

/-- What the host can do to an ABORTED block short of RESET: its action is consumed, MSG_SIZE is driven or the buffer
is written. The sequencer rests, and the gate ignores every word (R100, R107, R235). -/
theorem step_of_aborted {s t : State} (hb : s.blockState = .aborted) (hreset : ∀ rest, s.hostActions ≠ .reset :: rest)
    (hx : step s = .next t) :
    ∃ rest, t = s.withActions rest ∨ (∃ v, t = (s.withActions rest).driveMsgSize v) ∨
      ∃ k b, t = (s.withActions rest).writeBuffer k b := by
  have hnot : s.blockState ≠ .busy := by rw [hb]; exact nofun
  have hrests : ∀ as, sequencerStep exec (s.withActions as) = .next (s.withActions as) := fun as =>
    sequencerStep_of_not_busy (s := s.withActions as) hnot
  cases ha : s.hostActions with
  | nil =>
    have hstep := (step_of_nil ha).trans (hrests s.hostActions)
    exact ⟨s.hostActions, .inl (Host.Outcome.next.inj (hx.symm.trans hstep))⟩
  | cons a rest =>
    refine ⟨rest, ?_⟩
    cases a with
    | idle => exact .inl (Host.Outcome.next.inj (hx.symm.trans ((step_of_idle ha).trans (hrests rest))))
    | wait =>
      rw [step_of_wait ha, waitStep, if_neg hnot] at hx
      exact .inl (Host.Outcome.next.inj hx).symm
    | reset => exact absurd ha (hreset rest)
    | driveMsgSize v => exact .inr (.inl ⟨v, Host.Outcome.next.inj (hx.symm.trans (step_of_driveMsgSize ha))⟩)
    | writeBuffer k b =>
      obtain ⟨-, -, ht⟩ := writeBufferPort_cases ((step_of_writeBuffer ha).symm.trans hx)
      exact .inr (.inr ⟨k, b, ht⟩)
    | writeReg r w =>
      rcases writePort_cases ((step_of_writeReg ha).symm.trans hx) with ht | ⟨-, hw⟩
      · exact .inl ht
      · exact .inl (Host.Outcome.next.inj (hw.symm.trans (issueWord_of_aborted (s := s.withActions rest) hb w)))
    | readReg r => exact .inl (readPort_cases ((step_of_readReg ha).symm.trans hx))

/-- Settles O16: short of RESET the host reaches only its own side of an ABORTED block, and the gate ignores every
word. -/
theorem abortIsStickyUntilReset : Obligations.AbortIsStickyUntilReset := by
  refine ⟨fun s t hb hreset hx => ?_, fun s w rest hb ha => ?_⟩
  · obtain ⟨rest, rfl | ⟨v, rfl⟩ | ⟨k, b, rfl⟩⟩ := step_of_aborted hb hreset hx <;> rfl
  · rw [step_of_writeReg ha]
    exact issueWord_of_aborted (s := s.withActions rest) hb w

/-- Settles O13: HASH_VAR's size check fails, and HASH_FULL has none. -/
theorem sizeAboveCapacityIsRejected : Obligations.SizeAboveCapacityIsRejected := by
  refine ⟨rfl, fun c s ha => ⟨exec_hashVar_rejects ha, fun t hx => ?_⟩⟩
  obtain rfl := Host.Outcome.next.inj ((exec_hashFull_accepts ha).symm.trans hx)
  rfl

end Sys2Proof.Machine
end

section
/-! SUPPORT. The statements about RESET and the state after it (70_reset_and_hazards.md R270 to R272). -/

namespace Sys2Proof.Machine

variable {s : State} {rest : List HostAction}

theorem step_of_reset (ha : s.hostActions = .reset :: rest) : step s = .next (s.withActions rest).resetBlock := by
  simp only [step, machineStep, ha]

/-- IDLE, OVR, CAUSE and MODE have the code 0, so an idle block with clear fields reads a STATUS of 0 (R24). -/
theorem statusWord_of_clear (hstate : s.blockState = .idle) (hovr : s.ovr = false) (hcause : s.cause = .none)
    (hmode : s.mode = false) : statusWord s = 0 := by
  rw [statusWord, hstate, hovr, hcause, hmode]
  rfl

theorem statusWord_resetBlock (s : State) : statusWord s.resetBlock = 0 := statusWord_of_clear rfl rfl rfl rfl

/-- RESET abandons the command but keeps the message (R270). -/
theorem resetBlock_keepsInputs (s : State) : KeepsInputs s s.resetBlock := ⟨rfl, rfl, rfl, rfl, rfl⟩

/-- Settles O9: RESET is one write of the five fields it names and leaves the sequencer resting in IDLE; no other step
writes the STATE of an ABORTED block. -/
theorem resetClearsStatusAndStopsTheSequencer : Obligations.ResetClearsStatusAndStopsTheSequencer := by
  refine ⟨fun s rest ha => ?_, fun s t hb hreset hx => ?_⟩
  · have hidle : (s.withActions rest).resetBlock.blockState ≠ .busy := nofun
    exact ⟨_, step_of_reset ha, statusWord_resetBlock _, rfl, rfl, rfl, (resetBlock_keepsInputs _).keepsMemory,
      sequencerStep_of_not_busy hidle, fun hrest => step_of_ended hrest hidle⟩
  · obtain ⟨rest, rfl | ⟨v, rfl⟩ | ⟨k, b, rfl⟩⟩ := step_of_aborted hb hreset hx <;> exact hb

/-- Settles O10: STATUS is clear, the two reads are those of every state, and the sequencer rests. -/
theorem resetStateIsIdleAndWaits : Obligations.ResetStateIsIdleAndWaits := by
  obtain ⟨-, hcmd, hcapacity, -⟩ := hostSeesTheRegisters State.reset
  exact ⟨statusWord_of_clear rfl rfl rfl rfl, rfl, hcmd, hcapacity, step_of_ended rfl nofun⟩

/-- Settles O11: the buffer lists no byte, the pointers are 0, and of the clauses about STATE only that of IDLE
applies. -/
theorem resetStateIsLegal : Obligations.ResetStateIsLegal := by
  have hcanonical : BufferCanonical State.reset := ⟨reset_buffer_wf, nofun⟩
  have hptrs : PointersInBlock State.reset := ⟨Nat.zero_le 64, Nat.zero_le 64, Nat.zero_le 64⟩
  have hstatus : StatusLegal State.reset := ⟨fun _ => ⟨rfl, rfl, rfl, rfl⟩, nofun, nofun, nofun, nofun⟩
  exact ⟨hcanonical, hptrs, hstatus, nofun⟩

end Sys2Proof.Machine
end
